-- ==== Sys2Proof/Word.lean ====
section
/-! DEFINITION. The machine's word types and their plainest arithmetic (rules R6 and R7 of spec/00_scope.md). -/

namespace Sys2Proof

/-- Data width 8 bits (rule R6). -/
abbrev Byte := BitVec 8

/-- Address width 16 bits (rule R6); also the value of a register pair, SP and PC. -/
abbrev Word := BitVec 16

/-- `a ++ b` of rule R7 for two bytes: `hi` is bits 15 to 8. -/
abbrev Word.ofBytes (hi lo : Byte) : Word := hi ++ lo

/-- Bits 15 to 8 of a 16-bit value. -/
abbrev Word.hi (w : Word) : Byte := w.extractLsb' 8 8

/-- Bits 7 to 0 of a 16-bit value. -/
abbrev Word.lo (w : Word) : Byte := w.extractLsb' 0 8

/-- `sext_16` of rule R8: the byte as a two's-complement number, in 16 bits. -/
abbrev Byte.sext (b : Byte) : Word := b.signExtend 16

/-- `zext_16` of rule R8. -/
abbrev Byte.zext (b : Byte) : Word := b.zeroExtend 16

end Sys2Proof
end

