-- ==== Sys2Proof/Config.lean ====
section
/-! DEFINITION. Parameters P1 to P8 of rule R6 (spec/00_scope.md) and the answers of the world outside the block.

Each constant without a body is a free value: nothing is known of it but its type, so a proof holds for every value
(rule R6: "A claim proved about the hardware must hold for every value of P1, P2, P3, P7 and P8"). -/

namespace Sys2Proof

/-- Which of its two values P1, `ECHO_SENTINEL`, has: true for 0xFF (rules R6, R87; log entry 8). -/
opaque Config.echoIsFF : Bool

/-- P1: the byte read from 0xE000 to 0xFDFF, "one of 0x00, 0xFF" (rule R6). -/
def Config.echoSentinel : Byte := if Config.echoIsFF then 0xFF else 0x00

/-- Which of its two values P2, `UNUSABLE_SENTINEL`, has: true for 0xFF (rules R6, R87; log entry 8). -/
opaque Config.unusableIsFF : Bool

/-- P2: the byte read from 0xFEA0 to 0xFEFF (rule R6). -/
def Config.unusableSentinel : Byte := if Config.unusableIsFF then 0xFF else 0x00

/-- P3: the byte read from an unmapped I/O address (rule R91; log entry 9). -/
opaque Config.ioUnmappedRead : Word → Byte

/-- P4, a cartridge that is not the ROM-only one: its `read` on its own state, kept as a list of bytes. It is a function
of that state, so a read changes nothing (rule R84; log entry 5). -/
opaque Config.cartRead : List Byte → Word → Byte

/-- P4, a cartridge that is not the ROM-only one: its state after a `write` (rule R84; log entry 5). -/
opaque Config.cartWrite : List Byte → Word → Byte → List Byte

/-- The byte of a ROM-only cartridge image at an address its list does not name (rule R84; log entry 4). -/
opaque Config.romInit : Nat → Byte

/-- An RGB triple (parameter P5 of rule R6). -/
structure Rgb where
  r : Byte
  g : Byte
  b : Byte
  deriving DecidableEq, Repr, Inhabited

/-- P5: the colour of each shade (rule R553; log entry 10). -/
opaque Config.shadeRgb : BitVec 2 → Rgb

/-- P6, `DIV16_RESET`, with the spec's default (rules R6, R33, R600; log entry 12). -/
def Config.div16Reset : Word := 0xABCC

/-- P7: the n-th answer of `EXT.ext_read`, at an address; it "may return a different byte at every call" (rule R90; log
entry 6). -/
opaque Config.extRead : Nat → Word → Byte

/-- P7: whether EXT sets IF bit 3 (Serial) at the n-th step boundary; it has "the liberty to set IF bits 3 and 4 between
CPU steps" (rules R6 and R408; log entry 7). -/
opaque Config.extSerial : Nat → Bool

/-- P7: whether EXT sets IF bit 4 (Joypad) at the n-th step boundary (rules R6 and R408; log entry 7). -/
opaque Config.extJoypad : Nat → Bool

/-- P8: what VRAM, WRAM, OAM and HRAM hold at power-on, by bus address (rules R59 to R62; log entry 3). -/
opaque Config.ramInit : Nat → Byte

/-- P8: what the frame buffer holds at power-on, by pixel number y * 160 + x (rule R63; log entry 11). -/
opaque Config.framebufInit : Nat → BitVec 2

end Sys2Proof
end

