-- ==== Sys2Proof/Machine/State.lean ====
section
/-! DEFINITION. The machine's state (spec/10_state.md), the ways a step can stop, and the state after reset
(rule R600 of spec/70_reset_and_hazards.md). Plain data only. -/

namespace Sys2Proof.Machine

/-- The four flags, bits 7 to 4 of F; bits 3 to 0 always read 0 and are no state (rule R22). -/
structure Flags where
  z : Bool
  n : Bool
  h : Bool
  c : Bool
  deriving DecidableEq, Repr

/-- What the latch `fatal` can hold (rules R28 and R421). -/
inductive FatalReason where
  /-- An undefined opcode and its address (rule R377). -/
  | illegalOpcode (op : Byte) (pc : Word)
  /-- The address of a STOP (rule R373). -/
  | stopUnmodelled (pc : Word)
  deriving DecidableEq, Repr

/-- CPU registers and hidden CPU state (rules R20 to R28). -/
structure Cpu where
  a : Byte
  f : Flags
  b : Byte
  c : Byte
  d : Byte
  e : Byte
  h : Byte
  l : Byte
  sp : Word
  pc : Word
  ime : Bool
  imePending : Bool
  halted : Bool
  fatal : Option FatalReason
  deriving DecidableEq, Repr

/-- Interrupt controller: IF (5 bits, rule R30) and IE (8 bits, rule R31). -/
structure Irq where
  req : BitVec 5
  enable : Byte
  deriving DecidableEq, Repr

/-- Timer (rules R33 to R36). -/
structure Timer where
  div16 : Word
  tima : Byte
  tma : Byte
  tac : BitVec 3
  deriving DecidableEq, Repr

/-- States of the OAM DMA controller (rule R37). -/
inductive DmaState where
  | idle | startDelay | transfer
  deriving DecidableEq, Repr

/-- OAM DMA controller (rules R37 to R40). -/
structure Dma where
  state : DmaState
  delay : Nat
  index : Nat
  page : Byte
  deriving DecidableEq, Repr

/-- PPU modes (rule R48). -/
inductive PpuMode where
  | hblank | vblank | oamScan | draw
  deriving DecidableEq, Repr

/-- A copy of the four bytes of an OAM entry (rules R52 and R61). -/
structure OamEntry where
  y : Byte
  x : Byte
  tile : Byte
  attr : Byte
  deriving DecidableEq, Repr

/-- PPU registers and control state (rules R41 to R53). -/
structure Ppu where
  lcdc : Byte
  statSel : BitVec 4
  scy : Byte
  scx : Byte
  ly : Byte
  lyc : Byte
  bgp : Byte
  obp0 : Byte
  obp1 : Byte
  wy : Byte
  wx : Byte
  mode : PpuMode
  lineDot : Nat
  windowLine : Byte
  windowUsed : Bool
  lineSprites : List OamEntry
  lycFlag : Bool
  deriving DecidableEq, Repr

/-- Phases of the pixel fetcher (rule R54). -/
inductive Phase where
  | fetchTileId | fetchDataHigh | fetchDataLow | sleep | push
  deriving DecidableEq, Repr

/-- A sprite picked for the current group with its two latched bytes (rule R57). -/
structure Fetched where
  entry : OamEntry
  lo : Byte
  hi : Byte
  deriving DecidableEq, Repr

/-- Pixel fetcher and FIFO (rules R54 to R58). A FIFO entry is a shade (rule R58; log entry 10). -/
structure Fetcher where
  phase : Phase
  fetchX : Nat
  fifoX : Nat
  lineX : Nat
  pushedX : Nat
  bgwTile : Byte
  bgwRow : BitVec 3
  bgwLo : Byte
  bgwHi : Byte
  fetched : List Fetched
  fifo : List (BitVec 2)
  deriving DecidableEq, Repr

/-- Bytes by address, addresses strictly rising; an address that is not listed has not been written (Memory.lean). -/
abbrev Memory := List Host.Cell

/-- Pixels of a frame buffer by number y * 160 + x, numbers strictly rising; a number that is not listed has not been
written (rule R63; log entry 11). -/
abbrev FrameBuf := List (Nat × BitVec 2)

/-- The cartridge behind 0x0000 to 0x7FFF and 0xA000 to 0xBFFF (rule R84). -/
inductive Cart where
  /-- The reference cartridge: an image at 0x0000 to 0x7FFF, and 0xFF at 0xA000 to 0xBFFF. -/
  | romOnly (rom : Memory)
  /-- Any other cartridge: its own state, on which `Config.cartRead` and `Config.cartWrite` work (log entry 5). -/
  | external (st : List Byte)
  deriving DecidableEq, Repr

/-- What the environment does at one step boundary: whether it sets IF bit 3 and whether bit 4 (rule R408). -/
structure ExtRequest where
  serial : Bool
  joypad : Bool
  deriving DecidableEq, Repr

/-- Everything the machine holds. `mcycles`, `extReads`, `extTurns` and `extRequests` are the model's own fields
(INVENTORY.md). -/
structure State where
  cpu : Cpu
  irq : Irq
  timer : Timer
  dma : Dma
  ppu : Ppu
  fetcher : Fetcher
  /-- VRAM, WRAM, OAM and HRAM by bus address (rules R59 to R62). -/
  mem : Memory
  cart : Cart
  framebuf : FrameBuf
  frames : List FrameBuf
  extWrites : List (Word × Byte)
  cycles : Nat
  /-- The cost the instruction just executed left for `Advance` (rule R8 `cycles <- n`; log entry 14). -/
  mcycles : Nat
  /-- How many answers `EXT.ext_read` has given (log entry 6). -/
  extReads : Nat
  /-- How many turns the environment has had: the number of the next step boundary (log entry 7). -/
  extTurns : Nat
  /-- What is known beforehand of the environment's coming turns, nothing at reset: a turn not listed is a free value
  (log entry 7). -/
  extRequests : List ExtRequest
  deriving DecidableEq, Repr

/-- Why a step has no next state: the latch `fatal` was set before it, and "Step is not defined on a state with
fatal ≠ none" (rule R421). -/
inductive Fault where
  /-- Raised by `step` on a state whose latch holds an undefined opcode (rule R377). Safe: the spec gives no step. -/
  | illegalOpcode (op : Byte) (pc : Word)
  /-- Raised by `step` on a state whose latch holds a STOP (rule R373). Safe: the spec gives no step. -/
  | stopUnmodelled (pc : Word)
  deriving DecidableEq, Repr

/-- An instruction the model gives no meaning. -/
inductive Refusal where
  /-- Raised by an arm of `exec` without a meaning. Safe. No arm raises it. -/
  | notModelled (mnemonic : String)
  deriving DecidableEq, Repr

/-- The outcome of one instruction or one step. -/
abbrev Result := Host.Outcome State Fault Refusal

/-- The state after reset (rule R600). The memories, the frame buffer and the cartridge image list nothing, so all
their bytes are free values (log entries 3, 4 and 11); nothing is known of the environment's turns either (log
entry 7). -/
def State.reset : State where
  cpu :=
    { a := 0x01, f := { z := true, n := false, h := true, c := true }, b := 0x00, c := 0x13, d := 0x00, e := 0xD8,
      h := 0x01, l := 0x4D, sp := 0xFFFE, pc := 0x0100, ime := false, imePending := false, halted := false,
      fatal := none }
  irq := { req := 0x01, enable := 0x00 }
  timer := { div16 := Config.div16Reset, tima := 0x00, tma := 0x00, tac := 0 }
  dma := { state := .idle, delay := 0, index := 0, page := 0xFF }
  ppu :=
    { lcdc := 0x91, statSel := 0, scy := 0x00, scx := 0x00, ly := 0x00, lyc := 0x00, bgp := 0xFC, obp0 := 0xFF,
      obp1 := 0xFF, wy := 0x00, wx := 0x00, mode := .oamScan, lineDot := 0, windowLine := 0, windowUsed := false,
      lineSprites := [], lycFlag := true }
  fetcher :=
    { phase := .fetchTileId, fetchX := 0, fifoX := 0, lineX := 0, pushedX := 0, bgwTile := 0, bgwRow := 0, bgwLo := 0,
      bgwHi := 0, fetched := [], fifo := [] }
  mem := []
  cart := .romOnly []
  framebuf := []
  frames := []
  extWrites := []
  cycles := 0
  mcycles := 0
  extReads := 0
  extTurns := 0
  extRequests := []

end Sys2Proof.Machine
end

