-- ==== Sys2Proof/Machine/Memory.lean ====
section
/-! DEFINITION. Sparse storage in one canonical form: a list of key and value pairs, keys strictly rising. It holds
what has been written; a key that is not listed holds no value of the model's own, and its reader supplies the free
value of power-on (rule R85: "the last value written to that address by any agent, or the RAM_INIT value"). -/

namespace Sys2Proof.Machine

/-- The value listed at key `a`, if any. -/
def sparseFind {α : Type} : List (Nat × α) → Nat → Option α
  | [], _ => none
  | (k, v) :: rest, a => if a = k then some v else if a < k then none else sparseFind rest a

/-- Writes value `v` at key `a`, keeping the keys rising. -/
def sparseInsert {α : Type} : List (Nat × α) → Nat → α → List (Nat × α)
  | [], a, v => [(a, v)]
  | (k, w) :: rest, a, v =>
    if a < k then (a, v) :: (k, w) :: rest
    else if a = k then (a, v) :: rest
    else (k, w) :: sparseInsert rest a v

/-- Every key is at least `lo` and the keys rise strictly. -/
def sparseWfFrom {α : Type} : Nat → List (Nat × α) → Bool
  | _, [] => true
  | lo, (k, _) :: rest => decide (lo ≤ k) && sparseWfFrom (k + 1) rest

/-- The canonical form of sparse storage: keys strictly rising, so no key is listed twice. -/
def sparseWf {α : Type} (m : List (Nat × α)) : Bool := sparseWfFrom 0 m

/-- The canonical form of memory: addresses strictly rising (log entry 3). -/
def Memory.wf (m : Memory) : Bool := sparseWf m

/-- Byte of VRAM, WRAM, OAM or HRAM at a bus address: the one written last, else the free power-on value (rule R85). -/
def Memory.byteAt (m : Memory) (a : Nat) : Byte := (sparseFind m a).getD (Config.ramInit a)

/-- Byte of a ROM-only cartridge image (rule R84). -/
def Memory.romAt (m : Memory) (a : Nat) : Byte := (sparseFind m a).getD (Config.romInit a)

/-- Pixel of a frame buffer by number y * 160 + x (rule R63). -/
def FrameBuf.pixelAt (fb : FrameBuf) (n : Nat) : BitVec 2 := (sparseFind fb n).getD (Config.framebufInit n)

end Sys2Proof.Machine
end

