-- ==== Sys2Proof/Machine/Ops.lean ====
section
/-! DEFINITION. The named operations over the bus, the stack and the interrupt controller: `BusRead` and `BusWrite`
(spec/20_memory.md), `push16` and `pop16` (spec/41_load16_stack.md), taking an interrupt, returning from one, and the
fatal latch (spec/60_exceptions.md). -/

namespace Sys2Proof.Machine

/-! ## Address map -/

/-- The regions of rule R81. -/
inductive Region where
  | rom | vram | cartRam | wram | echo | oam | unusable | io | hram | ie
  deriving DecidableEq, Repr

/-- The region an address belongs to; the ranges partition the space (rule R81). -/
def region (a : Word) : Region :=
  if a.toNat < 0x8000 then .rom
  else if a.toNat < 0xA000 then .vram
  else if a.toNat < 0xC000 then .cartRam
  else if a.toNat < 0xE000 then .wram
  else if a.toNat < 0xFE00 then .echo
  else if a.toNat < 0xFEA0 then .oam
  else if a.toNat < 0xFF00 then .unusable
  else if a.toNat < 0xFF80 then .io
  else if a.toNat < 0xFFFF then .hram
  else .ie

/-- The I/O registers of rules R88 and R89; the three ports of `EXT` are one entry, and so are all addresses no rule
maps (rule R91). -/
inductive IoReg where
  | ext | div | tima | tma | tac | ifReg | lcdc | stat | scy | scx | ly | lyc | dma | bgp | obp0 | obp1 | wy | wx
  | unmapped
  deriving DecidableEq, Repr

/-- The register at an address in 0xFF00 to 0xFF7F (rules R88 and R91). -/
def ioReg (a : Word) : IoReg :=
  if a.toNat < 0xFF03 then .ext
  else if a.toNat < 0xFF04 then .unmapped
  else if a.toNat < 0xFF08 then
    if a.toNat = 0xFF04 then .div else if a.toNat = 0xFF05 then .tima else if a.toNat = 0xFF06 then .tma else .tac
  else if a.toNat = 0xFF0F then .ifReg
  else if a.toNat < 0xFF40 then .unmapped
  else if a.toNat = 0xFF40 then .lcdc
  else if a.toNat = 0xFF41 then .stat
  else if a.toNat = 0xFF42 then .scy
  else if a.toNat = 0xFF43 then .scx
  else if a.toNat = 0xFF44 then .ly
  else if a.toNat = 0xFF45 then .lyc
  else if a.toNat = 0xFF46 then .dma
  else if a.toNat = 0xFF47 then .bgp
  else if a.toNat = 0xFF48 then .obp0
  else if a.toNat = 0xFF49 then .obp1
  else if a.toNat = 0xFF4A then .wy
  else if a.toNat = 0xFF4B then .wx
  else .unmapped

/-- The byte a cartridge answers, for an address in its two ranges (rule R84). -/
def Cart.read : Cart → Word → Byte
  | .romOnly rom, a => if a.toNat < 0x8000 then rom.romAt a.toNat else 0xFF
  | .external st, a => Config.cartRead st a

/-- The cartridge after a write in its two ranges; the ROM-only one ignores it (rule R84). -/
def Cart.write : Cart → Word → Byte → Cart
  | .romOnly rom, _, _ => .romOnly rom
  | .external st, a, v => .external (Config.cartWrite st a v)

/-- The number STAT bits 1 to 0 read for a mode (rule R48). -/
def PpuMode.code : PpuMode → BitVec 2
  | .hblank => 0 | .vblank => 1 | .oamScan => 2 | .draw => 3

/-- STAT as it reads: bit 7 is 1, then `stat_sel`, the LYC-equal flag and the mode (rules R42 and R88). -/
def Ppu.statByte (p : Ppu) : Byte :=
  (1 : BitVec 1) ++ p.statSel ++ BitVec.ofBool p.lycFlag ++ p.mode.code

/-- OAM is blocked for every bus user exactly in `Transfer` (rule R86). -/
def State.oamBlocked (s : State) : Bool := decide (s.dma.state = .transfer)

/-! ## Bus -/

/-- The I/O read table of rule R88. -/
def State.ioRead (s : State) (a : Word) : Byte :=
  match ioReg a with
  | .ext => Config.extRead s.extReads a
  | .div => Word.hi s.timer.div16
  | .tima => s.timer.tima
  | .tma => s.timer.tma
  | .tac => 0xF8 ||| s.timer.tac.zeroExtend 8
  | .ifReg => 0xE0 ||| s.irq.req.zeroExtend 8
  | .lcdc => s.ppu.lcdc
  | .stat => s.ppu.statByte
  | .scy => s.ppu.scy
  | .scx => s.ppu.scx
  | .ly => s.ppu.ly
  | .lyc => s.ppu.lyc
  | .dma => s.dma.page
  | .bgp => s.ppu.bgp
  | .obp0 => s.ppu.obp0
  | .obp1 => s.ppu.obp1
  | .wy => s.ppu.wy
  | .wx => s.ppu.wx
  | .unmapped => Config.ioUnmappedRead a

/-- `BusRead` (rules R81 and R82). -/
def State.busRead (s : State) (a : Word) : Byte :=
  match region a with
  | .rom => s.cart.read a
  | .vram => s.mem.byteAt a.toNat
  | .cartRam => s.cart.read a
  | .wram => s.mem.byteAt a.toNat
  | .echo => Config.echoSentinel
  | .oam => if s.oamBlocked then 0xFF else s.mem.byteAt a.toNat
  | .unusable => Config.unusableSentinel
  | .io => s.ioRead a
  | .hram => s.mem.byteAt a.toNat
  | .ie => s.irq.enable

/-- How many answers of `EXT` a read of this address takes: one at 0xFF00 to 0xFF02, else none (rule R90). -/
def extAnswers (a : Word) : Nat := if 0xFF00 ≤ a.toNat ∧ a.toNat < 0xFF03 then 1 else 0

/-- The state after a bus read: nothing of the block changes (rule R82); the oracle's next answer is another one
(log entry 6). -/
def State.noteRead (s : State) (a : Word) : State := { s with extReads := s.extReads + extAnswers a }

/-- The I/O write table of rule R89. -/
def State.ioWrite (s : State) (a : Word) (v : Byte) : State :=
  match ioReg a with
  | .ext => { s with extWrites := s.extWrites ++ [(a, v)] }
  | .div => { s with timer := { s.timer with div16 := 0 } }
  | .tima => { s with timer := { s.timer with tima := v } }
  | .tma => { s with timer := { s.timer with tma := v } }
  | .tac => { s with timer := { s.timer with tac := v.extractLsb' 0 3 } }
  | .ifReg => { s with irq := { s.irq with req := v.extractLsb' 0 5 } }
  | .lcdc => { s with ppu := { s.ppu with lcdc := v } }
  | .stat => { s with ppu := { s.ppu with statSel := v.extractLsb' 3 4 } }
  | .scy => { s with ppu := { s.ppu with scy := v } }
  | .scx => { s with ppu := { s.ppu with scx := v } }
  | .ly => s
  | .lyc => { s with ppu := { s.ppu with lyc := v } }
  | .dma => { s with dma := { state := .startDelay, delay := 2, index := 0, page := v } }
  | .bgp => { s with ppu := { s.ppu with bgp := v } }
  | .obp0 => { s with ppu := { s.ppu with obp0 := v } }
  | .obp1 => { s with ppu := { s.ppu with obp1 := v } }
  | .wy => { s with ppu := { s.ppu with wy := v } }
  | .wx => { s with ppu := { s.ppu with wx := v } }
  | .unmapped => { s with extWrites := s.extWrites ++ [(a, v)] }

/-- A store into the memory arrays. -/
def State.storeByte (s : State) (a : Nat) (v : Byte) : State := { s with mem := sparseInsert s.mem a v }

/-- `BusWrite` (rules R81 and R83). -/
def State.busWrite (s : State) (a : Word) (v : Byte) : State :=
  match region a with
  | .rom => { s with cart := s.cart.write a v }
  | .vram => s.storeByte a.toNat v
  | .cartRam => { s with cart := s.cart.write a v }
  | .wram => s.storeByte a.toNat v
  | .echo => s
  | .oam => if s.oamBlocked then s else s.storeByte a.toNat v
  | .unusable => s
  | .io => s.ioWrite a v
  | .hram => s.storeByte a.toNat v
  | .ie => { s with irq := { s.irq with enable := v } }

/-! ## Program counter, stack -/

/-- `pc <- target` (rule R8). -/
def State.setPc (s : State) (a : Word) : State := { s with cpu := { s.cpu with pc := a } }

/-- `x[SP] <- v` (rule R8). -/
def State.setSp (s : State) (v : Word) : State := { s with cpu := { s.cpu with sp := v } }

/-- `cycles <- n`: the M-cycle cost of the instruction (rule R8). -/
def State.cost (s : State) (n : Nat) : State := { s with mcycles := n }

/-- `push16`: the high byte first, at the higher address (rule R238). -/
def State.push16 (s : State) (v : Word) : State :=
  let s1 := s.setSp (s.cpu.sp - 1)
  let s2 := s1.busWrite s1.cpu.sp (Word.hi v)
  let s3 := s2.setSp (s2.cpu.sp - 1)
  s3.busWrite s3.cpu.sp (Word.lo v)

/-- `pop16`: the low byte first, from the lower address (rule R239). -/
def State.pop16 (s : State) : Word × State :=
  let lo := s.busRead s.cpu.sp
  let s1 := (s.noteRead s.cpu.sp).setSp (s.cpu.sp + 1)
  let hi := s1.busRead s1.cpu.sp
  let s2 := (s1.noteRead s1.cpu.sp).setSp (s1.cpu.sp + 1)
  (Word.ofBytes hi lo, s2)

/-! ## Interrupts -/

/-- `request(i)` (rule R423). -/
def State.request (s : State) (i : Nat) : State :=
  { s with irq := { s.irq with req := s.irq.req ||| (1 : BitVec 5) <<< i } }

/-- Source `i` is enabled and requested (rules R425 and R427). -/
def Irq.pending (q : Irq) (i : Nat) : Bool := q.enable.getLsbD i && q.req.getLsbD i

/-- The least pending source, which has the highest priority (rules R424 and R428). -/
def Irq.lowestSource (q : Irq) : Option Nat :=
  if q.pending 0 then some 0
  else if q.pending 1 then some 1
  else if q.pending 2 then some 2
  else if q.pending 3 then some 3
  else if q.pending 4 then some 4
  else none

/-- The vector of source `i`, "0x0040 + 8*i" (rule R426). -/
def vector (i : Nat) : Word := BitVec.ofNat 16 (0x0040 + 8 * i)

/-- Taking the interrupt of source `i`: the state changes of rule R427, before its 5 M-cycles. PC is saved on the
stack, no status is saved, there is no mode (rule R430). -/
def State.takeInterrupt (s : State) (i : Nat) : State :=
  let s1 := s.push16 s.cpu.pc
  { s1 with
    cpu := { s1.cpu with pc := vector i, ime := false, halted := false }
    irq := { s1.irq with req := s1.irq.req &&& ~~~((1 : BitVec 5) <<< i) } }

/-- A return: pop PC (rules R349 and R350). -/
def State.returnPop (s : State) : State :=
  let r := s.pop16
  r.2.setPc r.1

/-- The return from an interrupt: pop PC and set IME at once (rule R351). -/
def State.returnFromInterrupt (s : State) : State :=
  let s1 := s.returnPop
  { s1 with cpu := { s1.cpu with ime := true } }

/-! ## The fatal latch -/

/-- `raise Fatal(reason)` by the opcode at address `pc`: the latch is set and PC is left at the offending opcode (rule R421). -/
def State.raiseFatal (s : State) (pc : Word) (r : FatalReason) : State :=
  { s with cpu := { s.cpu with pc := pc, fatal := some r } }

/-- The fault a latched reason stands for (rule R421). -/
def FatalReason.fault : FatalReason → Fault
  | .illegalOpcode op pc => .illegalOpcode op pc
  | .stopUnmodelled pc => .stopUnmodelled pc

end Sys2Proof.Machine
end

