-- ==== Sys2Proof/Shape.lean ====
section
/-! DEFINITION. The names the encodings use for operands (rules R20 and R132 to R137 of spec/10_state.md and
spec/30_encoding.md), and the shape of an instruction: which operation with which operands. -/

namespace Sys2Proof

/-- The seven registers of the 3-bit register field (rule R132); F is not among them. -/
inductive Reg8 where
  | b | c | d | e | h | l | a
  deriving DecidableEq, Repr

/-- An 8-bit operand in place: a register, or the memory byte at HL, `r[6]` of rule R132. -/
inductive Loc8 where
  | reg (r : Reg8)
  | mem
  deriving DecidableEq, Repr

/-- Second operand of an ALU operation (rule R249): register, `(HL)` or immediate. -/
inductive Src8 where
  | reg (r : Reg8)
  | mem
  | imm (n : Byte)
  deriving DecidableEq, Repr

/-- Pair table `rp` of rule R133. -/
inductive Pair where
  | bc | de | hl | sp
  deriving DecidableEq, Repr

/-- Pair table `rp2` of rule R134, used by `PUSH` and `POP`. -/
inductive StackPair where
  | bc | de | hl | af
  deriving DecidableEq, Repr

/-- The pairs that address memory in `LD A,(rr)` and `LD (rr),A` (rules R205 to R208). -/
inductive IndPair where
  | bc | de
  deriving DecidableEq, Repr

/-- Post-increment or post-decrement of HL (rule R143). -/
inductive HlStep where
  | inc | dec
  deriving DecidableEq, Repr

/-- Condition table `cc` of rule R135. -/
inductive Cond where
  | nz | z | nc | c
  deriving DecidableEq, Repr

/-- ALU operation table `alu` of rule R136. -/
inductive AluOp where
  | add | adc | sub | sbc | and | xor | or | cp
  deriving DecidableEq, Repr

/-- Rotate and shift table `rot` of rule R137. -/
inductive RotOp where
  | rlc | rrc | rl | rr | sla | sra | swap | srl
  deriving DecidableEq, Repr

/-- The four one-byte accumulator rotates `RLCA`, `RRCA`, `RLA`, `RRA` (rules R300 to R303). -/
inductive AccRotOp where
  | rlc | rrc | rl | rr
  deriving DecidableEq, Repr

/-- What an instruction does to which operands: one constructor per instruction rule of spec/40 to spec/46 (or per
rule group with a table of operations), with the operands the encoding selects. Every row of the opcode table has
one shape (`Instr.shape`, Sys2Proof/Decode.lean). -/
inductive Shape where
  | nop | halt | stop | di | ei
  | illegal (op : Byte)
  | ldRegReg (dst src : Reg8)
  | ldRegImm (dst : Reg8) (n : Byte)
  | ldRegHl (dst : Reg8)
  | ldHlReg (src : Reg8)
  | ldHlImm (n : Byte)
  | ldAInd (p : IndPair)
  | ldIndA (p : IndPair)
  | ldAHlStep (step : HlStep)
  | ldHlStepA (step : HlStep)
  | ldAAbs (a : Word)
  | ldAbsA (a : Word)
  | ldhA (n : Byte)
  | ldhStoreA (n : Byte)
  | ldAHighC
  | ldHighCA
  | ldPairImm (p : Pair) (v : Word)
  | ldAbsSp (a : Word)
  | ldSpHl
  | ldHlSpE8 (e : Byte)
  | push (p : StackPair)
  | pop (p : StackPair)
  | alu (op : AluOp) (b : Src8)
  | incReg (r : Reg8)
  | incMem
  | decReg (r : Reg8)
  | decMem
  | daa | cpl | scf | ccf
  | addHl (p : Pair)
  | incPair (p : Pair)
  | decPair (p : Pair)
  | addSp (e : Byte)
  | rotA (op : AccRotOp)
  | rot (op : RotOp) (o : Loc8)
  | bit (n : BitVec 3) (o : Loc8)
  | res (n : BitVec 3) (o : Loc8)
  | setBit (n : BitVec 3) (o : Loc8)
  | jp (a : Word)
  | jpCond (cc : Cond) (a : Word)
  | jpHl
  | jr (e : Byte)
  | jrCond (cc : Cond) (e : Byte)
  | call (a : Word)
  | callCond (cc : Cond) (a : Word)
  | ret
  | retCond (cc : Cond)
  | reti
  | rst (n : BitVec 3)
  deriving DecidableEq, Repr

end Sys2Proof
end

