-- ==== Sys2Proof/Machine/Operands.lean ====
section
/-! DEFINITION. Every operand form (rules R20 to R23, R132 to R138, R249, R309): registers, pairs, the byte at HL,
conditions and the address forms. -/

namespace Sys2Proof.Machine

/-! ## F as a byte -/

/-- F as it reads: Z N H C in bits 7 to 4, then zeros (rule R22). -/
def Flags.byte (f : Flags) : Byte :=
  BitVec.ofBool f.z ++ BitVec.ofBool f.n ++ BitVec.ofBool f.h ++ BitVec.ofBool f.c ++ (0 : BitVec 4)

/-- A write to F: bits 3 to 0 of the value are dropped (rule R22). -/
def Flags.ofByte (v : Byte) : Flags :=
  { z := v.getLsbD 7, n := v.getLsbD 6, h := v.getLsbD 5, c := v.getLsbD 4 }

/-! ## Registers -/

/-- `x[r]` for an 8-bit register (rules R8 and R132). -/
def Cpu.reg (c : Cpu) : Reg8 → Byte
  | .a => c.a | .b => c.b | .c => c.c | .d => c.d | .e => c.e | .h => c.h | .l => c.l

/-- `x[r] <- v` for an 8-bit register. -/
def Cpu.setReg (c : Cpu) (r : Reg8) (v : Byte) : Cpu :=
  match r with
  | .a => { c with a := v } | .b => { c with b := v } | .c => { c with c := v } | .d => { c with d := v }
  | .e => { c with e := v } | .h => { c with h := v } | .l => { c with l := v }

/-- The pair BC, a view (rule R21). -/
def Cpu.bc (c : Cpu) : Word := Word.ofBytes c.b c.c

/-- The pair DE, a view (rule R21). -/
def Cpu.de (c : Cpu) : Word := Word.ofBytes c.d c.e

/-- The pair HL, a view (rule R21). -/
def Cpu.hl (c : Cpu) : Word := Word.ofBytes c.h c.l

/-- The pair AF, a view (rule R21). -/
def Cpu.af (c : Cpu) : Word := Word.ofBytes c.a c.f.byte

/-- Writes both halves of HL (rule R21). -/
def Cpu.setHl (c : Cpu) (v : Word) : Cpu := { c with h := Word.hi v, l := Word.lo v }

/-- `x[rp[p]]` (rule R133). -/
def Cpu.pair (c : Cpu) : Pair → Word
  | .bc => c.bc | .de => c.de | .hl => c.hl | .sp => c.sp

/-- `x[rp[p]] <- v` (rules R21 and R133). -/
def Cpu.setPair (c : Cpu) (p : Pair) (v : Word) : Cpu :=
  match p with
  | .bc => { c with b := Word.hi v, c := Word.lo v }
  | .de => { c with d := Word.hi v, e := Word.lo v }
  | .hl => c.setHl v
  | .sp => { c with sp := v }

/-- `x[rp2[p]]` (rule R134). -/
def Cpu.stackPair (c : Cpu) : StackPair → Word
  | .bc => c.bc | .de => c.de | .hl => c.hl | .af => c.af

/-- `x[rp2[p]] <- v`; a write to AF drops bits 3 to 0 (rules R21 and R134). -/
def Cpu.setStackPair (c : Cpu) (p : StackPair) (v : Word) : Cpu :=
  match p with
  | .bc => { c with b := Word.hi v, c := Word.lo v }
  | .de => { c with d := Word.hi v, e := Word.lo v }
  | .hl => c.setHl v
  | .af => { c with a := Word.hi v, f := Flags.ofByte (Word.lo v) }

/-! ## Address forms -/

/-- The address of `(BC)` or `(DE)` (rules R205 to R208). -/
def Cpu.indAddr (c : Cpu) : IndPair → Word
  | .bc => c.bc | .de => c.de

/-- HL after its post-increment or post-decrement (rules R209 to R212). -/
def hlStepped : HlStep → Word → Word
  | .inc, a => a + 1
  | .dec, a => a - 1

/-- `0xFF00 + zext_16(n)`, the high-page address (rules R138, R215, R217). -/
def highAddr (n : Byte) : Word := 0xFF00 + Byte.zext n

/-! ## 8-bit operands in place -/

/-- Reading `r[z]`: a register or the byte at HL (rules R132 and R309). -/
def State.readLoc (s : State) : Loc8 → Byte
  | .reg r => s.cpu.reg r
  | .mem => s.busRead s.cpu.hl

/-- The state after reading `r[z]`. -/
def State.noteLoc (s : State) : Loc8 → State
  | .reg _ => s
  | .mem => s.noteRead s.cpu.hl

/-- Writing `r[z]` (rules R132 and R309). -/
def State.writeLoc (s : State) (o : Loc8) (v : Byte) : State :=
  match o with
  | .reg r => { s with cpu := s.cpu.setReg r v }
  | .mem => s.busWrite s.cpu.hl v

/-- The second operand of an ALU operation (rule R249). -/
def State.readSrc (s : State) : Src8 → Byte
  | .reg r => s.cpu.reg r
  | .mem => s.busRead s.cpu.hl
  | .imm n => n

/-- The state after reading the second operand of an ALU operation. -/
def State.noteSrc (s : State) : Src8 → State
  | .mem => s.noteRead s.cpu.hl
  | .reg _ => s
  | .imm _ => s

/-- The cost of an ALU operation by operand form (rule R249). -/
def aluCost : Src8 → Nat
  | .reg _ => 1
  | .mem => 2
  | .imm _ => 2

/-- The cost of a prefixed instruction that writes its operand back (rule R309). -/
def cbCost : Loc8 → Nat
  | .reg _ => 2
  | .mem => 4

/-- The cost of `BIT` (rule R309). -/
def bitCost : Loc8 → Nat
  | .reg _ => 2
  | .mem => 3

/-! ## Conditions -/

/-- The condition table (rule R135). -/
def condHolds (f : Flags) : Cond → Bool
  | .nz => !f.z
  | .z => f.z
  | .nc => !f.c
  | .c => f.c

end Sys2Proof.Machine
end

