-- ==== Sys2Proof/Machine/Flags.lean ====
section
/-! DEFINITION. Every result and flag computation, with the formulas of the rules: half-carry is bit 4 and carry bit 8
of `a ^ b ^ r` for 8-bit operations, bit 12 and bit 16 for `ADD HL,rr` (rules R250 to R267, R290, R293, R300 to R320).
An "unbounded" sum is computed in 16 bits (8-bit operands) or 32 bits (16-bit operands), where it is exact; a
difference is "taken modulo 2^16", as rule R252 says. -/

namespace Sys2Proof.Machine

/-- `a ^ b ^ r` at a 16-bit width, for 8-bit operands and their 16-bit sum or difference `r`. -/
def xor3 (a b : Byte) (r : Word) : Word := Byte.zext a ^^^ Byte.zext b ^^^ r

/-- A carry or borrow in, as a 16-bit number. -/
def carryIn (c : Bool) : Word := if c then 1 else 0

/-- `ADD` (`cin` false) and `ADC`: result and flags (rules R250 and R251). -/
def addWith (a b : Byte) (cin : Bool) : Byte × Flags :=
  let r : Word := Byte.zext a + Byte.zext b + carryIn cin
  (Word.lo r,
   { z := decide (Word.lo r = 0), n := false, h := (xor3 a b r).getLsbD 4, c := (xor3 a b r).getLsbD 8 })

/-- `SUB`, `CP` (`cin` false) and `SBC`: result and flags (rules R252, R253, R257). -/
def subWith (a b : Byte) (cin : Bool) : Byte × Flags :=
  let r : Word := Byte.zext a - Byte.zext b - carryIn cin
  (Word.lo r,
   { z := decide (Word.lo r = 0), n := true, h := (xor3 a b r).getLsbD 4, c := (xor3 a b r).getLsbD 8 })

/-- A logical result with the forced flags N = 0, H = `h`, C = 0 (rules R254 to R256). -/
def logic (r : Byte) (h : Bool) : Byte × Flags := (r, { z := decide (r = 0), n := false, h := h, c := false })

/-- The eight accumulator operations: the new A and flags; `CP` keeps A (rules R250 to R257). -/
def alu (op : AluOp) (a b : Byte) (f : Flags) : Byte × Flags :=
  match op with
  | .add => addWith a b false
  | .adc => addWith a b f.c
  | .sub => subWith a b false
  | .sbc => subWith a b f.c
  | .and => logic (a &&& b) true
  | .xor => logic (a ^^^ b) false
  | .or => logic (a ||| b) false
  | .cp => (a, (subWith a b false).2)

/-- `INC` of a byte: flag C is kept (rules R260 and R261). -/
def inc8 (v : Byte) (f : Flags) : Byte × Flags :=
  (v + 1, { z := decide (v + 1 = 0), n := false, h := decide (v &&& 0x0F = 0x0F), c := f.c })

/-- `DEC` of a byte: flag C is kept (rules R262 and R263). -/
def dec8 (v : Byte) (f : Flags) : Byte × Flags :=
  (v - 1, { z := decide (v - 1 = 0), n := true, h := decide (v &&& 0x0F = 0), c := f.c })

/-- The correction of `DAA`: its low part and whether the high part applies (rule R264). -/
def daaCorrection (a : Byte) (f : Flags) : Bool × Bool :=
  if f.n then (f.h, f.c)
  else (f.h || decide (9 < (a &&& 0x0F).toNat), f.c || decide (0x99 < a.toNat))

/-- `DAA` (rule R264). -/
def daa (a : Byte) (f : Flags) : Byte × Flags :=
  let k := daaCorrection a f
  let corr : Byte := (if k.1 then 0x06 else 0x00) ||| (if k.2 then 0x60 else 0x00)
  let r := if f.n then a - corr else a + corr
  (r, { z := decide (r = 0), n := f.n, h := false, c := k.2 })

/-- Flags of `CPL` (rule R265). -/
def cplFlags (f : Flags) : Flags := { f with n := true, h := true }

/-- Flags of `SCF` (rule R266). -/
def scfFlags (f : Flags) : Flags := { f with n := false, h := false, c := true }

/-- Flags of `CCF` (rule R267). -/
def ccfFlags (f : Flags) : Flags := { f with n := false, h := false, c := !f.c }

/-- `ADD HL,rr`: the sum and the flags; Z is kept (rule R290). -/
def addHl (a b : Word) (f : Flags) : Word × Flags :=
  let r : BitVec 32 := a.zeroExtend 32 + b.zeroExtend 32
  let x : BitVec 32 := a.zeroExtend 32 ^^^ b.zeroExtend 32 ^^^ r
  (r.extractLsb' 0 16, { f with n := false, h := x.getLsbD 12, c := x.getLsbD 16 })

/-- SP plus a signed byte, with the flags of the unsigned addition of SP's low byte and the raw byte, for `ADD SP,e8`
and `LD HL,SP+e8` (rules R234 and R293). -/
def addSpSigned (sp : Word) (b : Byte) : Word × Flags :=
  let t : Word := Byte.zext (Word.lo sp) + Byte.zext b
  (sp + Byte.sext b, { z := false, n := false, h := (xor3 (Word.lo sp) b t).getLsbD 4, c := t.getLsbD 8 })

/-- The four accumulator rotates: the new A and the bit that goes to flag C (rules R300 to R303). -/
def rotAcc (op : AccRotOp) (v : Byte) (cin : Bool) : Byte × Bool :=
  match op with
  | .rlc => (v <<< 1 ||| (BitVec.ofBool (v.getLsbD 7)).zeroExtend 8, v.getLsbD 7)
  | .rrc => (v >>> 1 ||| (BitVec.ofBool (v.getLsbD 0)).zeroExtend 8 <<< 7, v.getLsbD 0)
  | .rl => (v <<< 1 ||| (BitVec.ofBool cin).zeroExtend 8, v.getLsbD 7)
  | .rr => (v >>> 1 ||| (BitVec.ofBool cin).zeroExtend 8 <<< 7, v.getLsbD 0)

/-- The eight prefixed rotates and shifts: the result and the new flag C (rules R310 to R317). -/
def rotShift (op : RotOp) (v : Byte) (cin : Bool) : Byte × Bool :=
  match op with
  | .rlc => rotAcc .rlc v cin
  | .rrc => rotAcc .rrc v cin
  | .rl => rotAcc .rl v cin
  | .rr => rotAcc .rr v cin
  | .sla => (v <<< 1, v.getLsbD 7)
  | .sra => (v >>> 1 ||| v &&& 0x80, v.getLsbD 0)
  | .swap => (v <<< 4 ||| v >>> 4, false)
  | .srl => (v >>> 1, v.getLsbD 0)

/-- Flags of the accumulator rotates: Z always cleared (rules R300 to R303). -/
def rotAccFlags (c : Bool) : Flags := { z := false, n := false, h := false, c := c }

/-- Flags of the prefixed rotates and shifts (rules R310 to R317). -/
def rotFlags (w : Byte) (c : Bool) : Flags := { z := decide (w = 0), n := false, h := false, c := c }

/-- Flags of `BIT`: flag C is kept (rule R318). -/
def bitFlags (v : Byte) (n : BitVec 3) (f : Flags) : Flags := { f with z := !v.getLsbD n.toNat, n := false, h := true }

/-- The result of `RES` (rule R319). -/
def resBit (v : Byte) (n : BitVec 3) : Byte := v &&& ~~~((1 : Byte) <<< n.toNat)

/-- The result of `SET` (rule R320). -/
def setBit (v : Byte) (n : BitVec 3) : Byte := v ||| (1 : Byte) <<< n.toNat

end Sys2Proof.Machine
end

