-- ==== Sys2Proof/Machine/Alu16.lean ====
section
/-! DEFINITION. 16-bit arithmetic (spec/43_alu16.md). -/

namespace Sys2Proof.Machine

/-! ## Shared operations -/

/-- `ADD HL,rr` (rule R290). -/
def opAddHl (p : Pair) (s : State) : State :=
  let r := addHl s.cpu.hl (s.cpu.pair p) s.cpu.f
  { s with cpu := { s.cpu.setHl r.1 with f := r.2 } }.cost 2

/-- `INC rr` (rule R291). -/
def opIncPair (p : Pair) (s : State) : State := { s with cpu := s.cpu.setPair p (s.cpu.pair p + 1) }.cost 2

/-- `DEC rr` (rule R292). -/
def opDecPair (p : Pair) (s : State) : State := { s with cpu := s.cpu.setPair p (s.cpu.pair p - 1) }.cost 2

/-- `ADD SP,e8` (rule R293). -/
def opAddSp (e : Byte) (s : State) : State :=
  let r := addSpSigned s.cpu.sp e
  { s with cpu := { s.cpu with sp := r.1, f := r.2 } }.cost 4

/-! ## One meaning per instruction -/

/-- `INC BC` (rule R291). -/
def execIncBc (s : State) : Result := .next (opIncPair .bc s)

/-- `ADD HL,BC` (rule R290). -/
def execAddHlBc (s : State) : Result := .next (opAddHl .bc s)

/-- `DEC BC` (rule R292). -/
def execDecBc (s : State) : Result := .next (opDecPair .bc s)

/-- `INC DE` (rule R291). -/
def execIncDe (s : State) : Result := .next (opIncPair .de s)

/-- `ADD HL,DE` (rule R290). -/
def execAddHlDe (s : State) : Result := .next (opAddHl .de s)

/-- `DEC DE` (rule R292). -/
def execDecDe (s : State) : Result := .next (opDecPair .de s)

/-- `INC HL` (rule R291). -/
def execIncHl (s : State) : Result := .next (opIncPair .hl s)

/-- `ADD HL,HL` (rule R290). -/
def execAddHlHl (s : State) : Result := .next (opAddHl .hl s)

/-- `DEC HL` (rule R292). -/
def execDecHl (s : State) : Result := .next (opDecPair .hl s)

/-- `INC SP` (rule R291). -/
def execIncSp (s : State) : Result := .next (opIncPair .sp s)

/-- `ADD HL,SP` (rule R290). -/
def execAddHlSp (s : State) : Result := .next (opAddHl .sp s)

/-- `DEC SP` (rule R292). -/
def execDecSp (s : State) : Result := .next (opDecPair .sp s)

/-- `ADD SP,e8` (rule R293). -/
def execAddSpE8 (n : Byte) (s : State) : Result := .next (opAddSp n s)

end Sys2Proof.Machine
end

