-- ==== Sys2Proof/Machine/Alu8.lean ====
section
/-! DEFINITION. 8-bit arithmetic and logic (spec/42_alu8.md). -/

namespace Sys2Proof.Machine

/-! ## Shared operations -/

/-- `ADD ADC SUB SBC AND XOR OR CP` with A and any second operand (rules R249 to R257). -/
def opAlu (op : AluOp) (b : Src8) (s : State) : State :=
  let r := alu op s.cpu.a (s.readSrc b) s.cpu.f
  { s.noteSrc b with cpu := { s.cpu with a := r.1, f := r.2 } }.cost (aluCost b)

/-- `INC r` (rule R260). -/
def opIncReg (r : Reg8) (s : State) : State :=
  let x := inc8 (s.cpu.reg r) s.cpu.f
  { s with cpu := { s.cpu.setReg r x.1 with f := x.2 } }.cost 1

/-- One read then one write of the byte at HL, and the flags (rules R96, R261, R263). -/
def State.modifyHl (s : State) (x : Byte × Flags) : State :=
  let s1 := (s.noteRead s.cpu.hl).busWrite s.cpu.hl x.1
  { s1 with cpu := { s1.cpu with f := x.2 } }

/-- `INC (HL)` (rule R261). -/
def opIncMem (s : State) : State := (s.modifyHl (inc8 (s.busRead s.cpu.hl) s.cpu.f)).cost 3

/-- `DEC r` (rule R262). -/
def opDecReg (r : Reg8) (s : State) : State :=
  let x := dec8 (s.cpu.reg r) s.cpu.f
  { s with cpu := { s.cpu.setReg r x.1 with f := x.2 } }.cost 1

/-- `DEC (HL)` (rule R263). -/
def opDecMem (s : State) : State := (s.modifyHl (dec8 (s.busRead s.cpu.hl) s.cpu.f)).cost 3

/-- `DAA` (rule R264). -/
def opDaa (s : State) : State :=
  let x := daa s.cpu.a s.cpu.f
  { s with cpu := { s.cpu with a := x.1, f := x.2 } }.cost 1

/-- `CPL` (rule R265). -/
def opCpl (s : State) : State := { s with cpu := { s.cpu with a := ~~~s.cpu.a, f := cplFlags s.cpu.f } }.cost 1

/-- `SCF` (rule R266). -/
def opScf (s : State) : State := { s with cpu := { s.cpu with f := scfFlags s.cpu.f } }.cost 1

/-- `CCF` (rule R267). -/
def opCcf (s : State) : State := { s with cpu := { s.cpu with f := ccfFlags s.cpu.f } }.cost 1

/-! ## One meaning per instruction -/

/-- `INC B` (rule R260). -/
def execIncB (s : State) : Result := .next (opIncReg .b s)

/-- `DEC B` (rule R262). -/
def execDecB (s : State) : Result := .next (opDecReg .b s)

/-- `INC C` (rule R260). -/
def execIncC (s : State) : Result := .next (opIncReg .c s)

/-- `DEC C` (rule R262). -/
def execDecC (s : State) : Result := .next (opDecReg .c s)

/-- `INC D` (rule R260). -/
def execIncD (s : State) : Result := .next (opIncReg .d s)

/-- `DEC D` (rule R262). -/
def execDecD (s : State) : Result := .next (opDecReg .d s)

/-- `INC E` (rule R260). -/
def execIncE (s : State) : Result := .next (opIncReg .e s)

/-- `DEC E` (rule R262). -/
def execDecE (s : State) : Result := .next (opDecReg .e s)

/-- `INC H` (rule R260). -/
def execIncH (s : State) : Result := .next (opIncReg .h s)

/-- `DEC H` (rule R262). -/
def execDecH (s : State) : Result := .next (opDecReg .h s)

/-- `DAA` (rule R264). -/
def execDaa (s : State) : Result := .next (opDaa s)

/-- `INC L` (rule R260). -/
def execIncL (s : State) : Result := .next (opIncReg .l s)

/-- `DEC L` (rule R262). -/
def execDecL (s : State) : Result := .next (opDecReg .l s)

/-- `CPL` (rule R265). -/
def execCpl (s : State) : Result := .next (opCpl s)

/-- `INC (HL)` (rule R261). -/
def execIncMemHl (s : State) : Result := .next (opIncMem s)

/-- `DEC (HL)` (rule R263). -/
def execDecMemHl (s : State) : Result := .next (opDecMem s)

/-- `SCF` (rule R266). -/
def execScf (s : State) : Result := .next (opScf s)

/-- `INC A` (rule R260). -/
def execIncA (s : State) : Result := .next (opIncReg .a s)

/-- `DEC A` (rule R262). -/
def execDecA (s : State) : Result := .next (opDecReg .a s)

/-- `CCF` (rule R267). -/
def execCcf (s : State) : Result := .next (opCcf s)

/-- `ADD A,B` (rule R250). -/
def execAddAB (s : State) : Result := .next (opAlu .add (.reg .b) s)

/-- `ADD A,C` (rule R250). -/
def execAddAC (s : State) : Result := .next (opAlu .add (.reg .c) s)

/-- `ADD A,D` (rule R250). -/
def execAddAD (s : State) : Result := .next (opAlu .add (.reg .d) s)

/-- `ADD A,E` (rule R250). -/
def execAddAE (s : State) : Result := .next (opAlu .add (.reg .e) s)

/-- `ADD A,H` (rule R250). -/
def execAddAH (s : State) : Result := .next (opAlu .add (.reg .h) s)

/-- `ADD A,L` (rule R250). -/
def execAddAL (s : State) : Result := .next (opAlu .add (.reg .l) s)

/-- `ADD A,(HL)` (rule R250). -/
def execAddAMemHl (s : State) : Result := .next (opAlu .add .mem s)

/-- `ADD A,A` (rule R250). -/
def execAddAA (s : State) : Result := .next (opAlu .add (.reg .a) s)

/-- `ADC A,B` (rule R251). -/
def execAdcAB (s : State) : Result := .next (opAlu .adc (.reg .b) s)

/-- `ADC A,C` (rule R251). -/
def execAdcAC (s : State) : Result := .next (opAlu .adc (.reg .c) s)

/-- `ADC A,D` (rule R251). -/
def execAdcAD (s : State) : Result := .next (opAlu .adc (.reg .d) s)

/-- `ADC A,E` (rule R251). -/
def execAdcAE (s : State) : Result := .next (opAlu .adc (.reg .e) s)

/-- `ADC A,H` (rule R251). -/
def execAdcAH (s : State) : Result := .next (opAlu .adc (.reg .h) s)

/-- `ADC A,L` (rule R251). -/
def execAdcAL (s : State) : Result := .next (opAlu .adc (.reg .l) s)

/-- `ADC A,(HL)` (rule R251). -/
def execAdcAMemHl (s : State) : Result := .next (opAlu .adc .mem s)

/-- `ADC A,A` (rule R251). -/
def execAdcAA (s : State) : Result := .next (opAlu .adc (.reg .a) s)

/-- `SUB A,B` (rule R252). -/
def execSubAB (s : State) : Result := .next (opAlu .sub (.reg .b) s)

/-- `SUB A,C` (rule R252). -/
def execSubAC (s : State) : Result := .next (opAlu .sub (.reg .c) s)

/-- `SUB A,D` (rule R252). -/
def execSubAD (s : State) : Result := .next (opAlu .sub (.reg .d) s)

/-- `SUB A,E` (rule R252). -/
def execSubAE (s : State) : Result := .next (opAlu .sub (.reg .e) s)

/-- `SUB A,H` (rule R252). -/
def execSubAH (s : State) : Result := .next (opAlu .sub (.reg .h) s)

/-- `SUB A,L` (rule R252). -/
def execSubAL (s : State) : Result := .next (opAlu .sub (.reg .l) s)

/-- `SUB A,(HL)` (rule R252). -/
def execSubAMemHl (s : State) : Result := .next (opAlu .sub .mem s)

/-- `SUB A,A` (rule R252). -/
def execSubAA (s : State) : Result := .next (opAlu .sub (.reg .a) s)

/-- `SBC A,B` (rule R253). -/
def execSbcAB (s : State) : Result := .next (opAlu .sbc (.reg .b) s)

/-- `SBC A,C` (rule R253). -/
def execSbcAC (s : State) : Result := .next (opAlu .sbc (.reg .c) s)

/-- `SBC A,D` (rule R253). -/
def execSbcAD (s : State) : Result := .next (opAlu .sbc (.reg .d) s)

/-- `SBC A,E` (rule R253). -/
def execSbcAE (s : State) : Result := .next (opAlu .sbc (.reg .e) s)

/-- `SBC A,H` (rule R253). -/
def execSbcAH (s : State) : Result := .next (opAlu .sbc (.reg .h) s)

/-- `SBC A,L` (rule R253). -/
def execSbcAL (s : State) : Result := .next (opAlu .sbc (.reg .l) s)

/-- `SBC A,(HL)` (rule R253). -/
def execSbcAMemHl (s : State) : Result := .next (opAlu .sbc .mem s)

/-- `SBC A,A` (rule R253). -/
def execSbcAA (s : State) : Result := .next (opAlu .sbc (.reg .a) s)

/-- `AND A,B` (rule R254). -/
def execAndAB (s : State) : Result := .next (opAlu .and (.reg .b) s)

/-- `AND A,C` (rule R254). -/
def execAndAC (s : State) : Result := .next (opAlu .and (.reg .c) s)

/-- `AND A,D` (rule R254). -/
def execAndAD (s : State) : Result := .next (opAlu .and (.reg .d) s)

/-- `AND A,E` (rule R254). -/
def execAndAE (s : State) : Result := .next (opAlu .and (.reg .e) s)

/-- `AND A,H` (rule R254). -/
def execAndAH (s : State) : Result := .next (opAlu .and (.reg .h) s)

/-- `AND A,L` (rule R254). -/
def execAndAL (s : State) : Result := .next (opAlu .and (.reg .l) s)

/-- `AND A,(HL)` (rule R254). -/
def execAndAMemHl (s : State) : Result := .next (opAlu .and .mem s)

/-- `AND A,A` (rule R254). -/
def execAndAA (s : State) : Result := .next (opAlu .and (.reg .a) s)

/-- `XOR A,B` (rule R255). -/
def execXorAB (s : State) : Result := .next (opAlu .xor (.reg .b) s)

/-- `XOR A,C` (rule R255). -/
def execXorAC (s : State) : Result := .next (opAlu .xor (.reg .c) s)

/-- `XOR A,D` (rule R255). -/
def execXorAD (s : State) : Result := .next (opAlu .xor (.reg .d) s)

/-- `XOR A,E` (rule R255). -/
def execXorAE (s : State) : Result := .next (opAlu .xor (.reg .e) s)

/-- `XOR A,H` (rule R255). -/
def execXorAH (s : State) : Result := .next (opAlu .xor (.reg .h) s)

/-- `XOR A,L` (rule R255). -/
def execXorAL (s : State) : Result := .next (opAlu .xor (.reg .l) s)

/-- `XOR A,(HL)` (rule R255). -/
def execXorAMemHl (s : State) : Result := .next (opAlu .xor .mem s)

/-- `XOR A,A` (rule R255). -/
def execXorAA (s : State) : Result := .next (opAlu .xor (.reg .a) s)

/-- `OR A,B` (rule R256). -/
def execOrAB (s : State) : Result := .next (opAlu .or (.reg .b) s)

/-- `OR A,C` (rule R256). -/
def execOrAC (s : State) : Result := .next (opAlu .or (.reg .c) s)

/-- `OR A,D` (rule R256). -/
def execOrAD (s : State) : Result := .next (opAlu .or (.reg .d) s)

/-- `OR A,E` (rule R256). -/
def execOrAE (s : State) : Result := .next (opAlu .or (.reg .e) s)

/-- `OR A,H` (rule R256). -/
def execOrAH (s : State) : Result := .next (opAlu .or (.reg .h) s)

/-- `OR A,L` (rule R256). -/
def execOrAL (s : State) : Result := .next (opAlu .or (.reg .l) s)

/-- `OR A,(HL)` (rule R256). -/
def execOrAMemHl (s : State) : Result := .next (opAlu .or .mem s)

/-- `OR A,A` (rule R256). -/
def execOrAA (s : State) : Result := .next (opAlu .or (.reg .a) s)

/-- `CP A,B` (rule R257). -/
def execCpAB (s : State) : Result := .next (opAlu .cp (.reg .b) s)

/-- `CP A,C` (rule R257). -/
def execCpAC (s : State) : Result := .next (opAlu .cp (.reg .c) s)

/-- `CP A,D` (rule R257). -/
def execCpAD (s : State) : Result := .next (opAlu .cp (.reg .d) s)

/-- `CP A,E` (rule R257). -/
def execCpAE (s : State) : Result := .next (opAlu .cp (.reg .e) s)

/-- `CP A,H` (rule R257). -/
def execCpAH (s : State) : Result := .next (opAlu .cp (.reg .h) s)

/-- `CP A,L` (rule R257). -/
def execCpAL (s : State) : Result := .next (opAlu .cp (.reg .l) s)

/-- `CP A,(HL)` (rule R257). -/
def execCpAMemHl (s : State) : Result := .next (opAlu .cp .mem s)

/-- `CP A,A` (rule R257). -/
def execCpAA (s : State) : Result := .next (opAlu .cp (.reg .a) s)

/-- `ADD A,d8` (rule R250). -/
def execAddAD8 (n : Byte) (s : State) : Result := .next (opAlu .add (.imm n) s)

/-- `ADC A,d8` (rule R251). -/
def execAdcAD8 (n : Byte) (s : State) : Result := .next (opAlu .adc (.imm n) s)

/-- `SUB A,d8` (rule R252). -/
def execSubAD8 (n : Byte) (s : State) : Result := .next (opAlu .sub (.imm n) s)

/-- `SBC A,d8` (rule R253). -/
def execSbcAD8 (n : Byte) (s : State) : Result := .next (opAlu .sbc (.imm n) s)

/-- `AND A,d8` (rule R254). -/
def execAndAD8 (n : Byte) (s : State) : Result := .next (opAlu .and (.imm n) s)

/-- `XOR A,d8` (rule R255). -/
def execXorAD8 (n : Byte) (s : State) : Result := .next (opAlu .xor (.imm n) s)

/-- `OR A,d8` (rule R256). -/
def execOrAD8 (n : Byte) (s : State) : Result := .next (opAlu .or (.imm n) s)

/-- `CP A,d8` (rule R257). -/
def execCpAD8 (n : Byte) (s : State) : Result := .next (opAlu .cp (.imm n) s)

end Sys2Proof.Machine
end

