-- ==== Sys2Proof/Machine/Control.lean ====
section
/-! DEFINITION. Control transfer (spec/45_control_flow.md). PC is the address of the next instruction when the operation runs
(rule R24); no flag is written. -/

namespace Sys2Proof.Machine

/-! ## Shared operations -/

/-- `JP a16` (rule R340). -/
def opJp (a : Word) (s : State) : State := (s.setPc a).cost 4

/-- `JP cc,a16` (rule R341). -/
def opJpCond (cc : Cond) (a : Word) (s : State) : State :=
  if condHolds s.cpu.f cc then (s.setPc a).cost 4 else s.cost 3

/-- `JP HL` (rule R342). -/
def opJpHl (s : State) : State := (s.setPc s.cpu.hl).cost 1

/-- `JR e8` (rule R343). -/
def opJr (e : Byte) (s : State) : State := (s.setPc (s.cpu.pc + Byte.sext e)).cost 3

/-- `JR cc,e8` (rule R344). -/
def opJrCond (cc : Cond) (e : Byte) (s : State) : State :=
  if condHolds s.cpu.f cc then (s.setPc (s.cpu.pc + Byte.sext e)).cost 3 else s.cost 2

/-- `CALL a16` (rule R345). -/
def opCall (a : Word) (s : State) : State := ((s.push16 s.cpu.pc).setPc a).cost 6

/-- `CALL cc,a16` (rule R346). -/
def opCallCond (cc : Cond) (a : Word) (s : State) : State :=
  if condHolds s.cpu.f cc then ((s.push16 s.cpu.pc).setPc a).cost 6 else s.cost 3

/-- `RET` (rule R349). -/
def opRet (s : State) : State := s.returnPop.cost 4

/-- `RET cc` (rule R350). -/
def opRetCond (cc : Cond) (s : State) : State := if condHolds s.cpu.f cc then s.returnPop.cost 5 else s.cost 2

/-- `RETI` (rule R351). -/
def opReti (s : State) : State := s.returnFromInterrupt.cost 4

/-- The target of `RST` with field `y`: y * 8 (rule R352). -/
def rstTarget (n : BitVec 3) : Word := BitVec.ofNat 16 (n.toNat * 8)

/-- `RST n` (rule R352). -/
def opRst (n : BitVec 3) (s : State) : State := ((s.push16 s.cpu.pc).setPc (rstTarget n)).cost 4

/-! ## One meaning per instruction -/

/-- `JR e8` (rule R343). -/
def execJrE8 (n : Byte) (s : State) : Result := .next (opJr n s)

/-- `JR NZ,e8` (rule R344). -/
def execJrNzE8 (n : Byte) (s : State) : Result := .next (opJrCond .nz n s)

/-- `JR Z,e8` (rule R344). -/
def execJrZE8 (n : Byte) (s : State) : Result := .next (opJrCond .z n s)

/-- `JR NC,e8` (rule R344). -/
def execJrNcE8 (n : Byte) (s : State) : Result := .next (opJrCond .nc n s)

/-- `JR C,e8` (rule R344). -/
def execJrCE8 (n : Byte) (s : State) : Result := .next (opJrCond .c n s)

/-- `RET NZ` (rule R350). -/
def execRetNz (s : State) : Result := .next (opRetCond .nz s)

/-- `JP NZ,a16` (rule R341). -/
def execJpNzA16 (v : Word) (s : State) : Result := .next (opJpCond .nz v s)

/-- `JP a16` (rule R340). -/
def execJpA16 (v : Word) (s : State) : Result := .next (opJp v s)

/-- `CALL NZ,a16` (rule R346). -/
def execCallNzA16 (v : Word) (s : State) : Result := .next (opCallCond .nz v s)

/-- `RST 00H` (rule R352). -/
def execRst00 (s : State) : Result := .next (opRst 0 s)

/-- `RET Z` (rule R350). -/
def execRetZ (s : State) : Result := .next (opRetCond .z s)

/-- `RET` (rule R349). -/
def execRet (s : State) : Result := .next (opRet s)

/-- `JP Z,a16` (rule R341). -/
def execJpZA16 (v : Word) (s : State) : Result := .next (opJpCond .z v s)

/-- `CALL Z,a16` (rule R346). -/
def execCallZA16 (v : Word) (s : State) : Result := .next (opCallCond .z v s)

/-- `CALL a16` (rule R345). -/
def execCallA16 (v : Word) (s : State) : Result := .next (opCall v s)

/-- `RST 08H` (rule R352). -/
def execRst08 (s : State) : Result := .next (opRst 1 s)

/-- `RET NC` (rule R350). -/
def execRetNc (s : State) : Result := .next (opRetCond .nc s)

/-- `JP NC,a16` (rule R341). -/
def execJpNcA16 (v : Word) (s : State) : Result := .next (opJpCond .nc v s)

/-- `CALL NC,a16` (rule R346). -/
def execCallNcA16 (v : Word) (s : State) : Result := .next (opCallCond .nc v s)

/-- `RST 10H` (rule R352). -/
def execRst10 (s : State) : Result := .next (opRst 2 s)

/-- `RET C` (rule R350). -/
def execRetC (s : State) : Result := .next (opRetCond .c s)

/-- `RETI` (rule R351). -/
def execReti (s : State) : Result := .next (opReti s)

/-- `JP C,a16` (rule R341). -/
def execJpCA16 (v : Word) (s : State) : Result := .next (opJpCond .c v s)

/-- `CALL C,a16` (rule R346). -/
def execCallCA16 (v : Word) (s : State) : Result := .next (opCallCond .c v s)

/-- `RST 18H` (rule R352). -/
def execRst18 (s : State) : Result := .next (opRst 3 s)

/-- `RST 20H` (rule R352). -/
def execRst20 (s : State) : Result := .next (opRst 4 s)

/-- `JP HL` (rule R342). -/
def execJpHl (s : State) : Result := .next (opJpHl s)

/-- `RST 28H` (rule R352). -/
def execRst28 (s : State) : Result := .next (opRst 5 s)

/-- `RST 30H` (rule R352). -/
def execRst30 (s : State) : Result := .next (opRst 6 s)

/-- `RST 38H` (rule R352). -/
def execRst38 (s : State) : Result := .next (opRst 7 s)

end Sys2Proof.Machine
end

