-- ==== Sys2Proof/Machine/Load16.lean ====
section
/-! DEFINITION. 16-bit loads and the stack (spec/41_load16_stack.md). -/

namespace Sys2Proof.Machine

/-! ## Shared operations -/

/-- `LD rr,d16` (rule R230). -/
def opLdPairImm (p : Pair) (v : Word) (s : State) : State := { s with cpu := s.cpu.setPair p v }.cost 3

/-- `LD (a16),SP`: low byte first (rules R93 and R232). -/
def opLdAbsSp (a : Word) (s : State) : State :=
  ((s.busWrite a (Word.lo s.cpu.sp)).busWrite (a + 1) (Word.hi s.cpu.sp)).cost 5

/-- `LD SP,HL` (rule R233). -/
def opLdSpHl (s : State) : State := (s.setSp s.cpu.hl).cost 2

/-- `LD HL,SP+e8` (rule R234). -/
def opLdHlSpE8 (e : Byte) (s : State) : State :=
  let r := addSpSigned s.cpu.sp e
  { s with cpu := { s.cpu.setHl r.1 with f := r.2 } }.cost 3

/-- `PUSH rr` (rule R235). -/
def opPush (p : StackPair) (s : State) : State := (s.push16 (s.cpu.stackPair p)).cost 4

/-- `POP rr` and `POP AF` (rules R236 and R237). -/
def opPop (p : StackPair) (s : State) : State :=
  let r := s.pop16
  { r.2 with cpu := r.2.cpu.setStackPair p r.1 }.cost 3

/-! ## One meaning per instruction -/

/-- `LD BC,d16` (rule R230). -/
def execLdBcD16 (v : Word) (s : State) : Result := .next (opLdPairImm .bc v s)

/-- `LD (a16),SP` (rule R232). -/
def execLdMemA16Sp (v : Word) (s : State) : Result := .next (opLdAbsSp v s)

/-- `LD DE,d16` (rule R230). -/
def execLdDeD16 (v : Word) (s : State) : Result := .next (opLdPairImm .de v s)

/-- `LD HL,d16` (rule R230). -/
def execLdHlD16 (v : Word) (s : State) : Result := .next (opLdPairImm .hl v s)

/-- `LD SP,d16` (rule R230). -/
def execLdSpD16 (v : Word) (s : State) : Result := .next (opLdPairImm .sp v s)

/-- `POP BC` (rule R236). -/
def execPopBc (s : State) : Result := .next (opPop .bc s)

/-- `PUSH BC` (rule R235). -/
def execPushBc (s : State) : Result := .next (opPush .bc s)

/-- `POP DE` (rule R236). -/
def execPopDe (s : State) : Result := .next (opPop .de s)

/-- `PUSH DE` (rule R235). -/
def execPushDe (s : State) : Result := .next (opPush .de s)

/-- `POP HL` (rule R236). -/
def execPopHl (s : State) : Result := .next (opPop .hl s)

/-- `PUSH HL` (rule R235). -/
def execPushHl (s : State) : Result := .next (opPush .hl s)

/-- `POP AF` (rule R237). -/
def execPopAf (s : State) : Result := .next (opPop .af s)

/-- `PUSH AF` (rule R235). -/
def execPushAf (s : State) : Result := .next (opPush .af s)

/-- `LD HL,SP+e8` (rule R234). -/
def execLdHlSpE8 (n : Byte) (s : State) : Result := .next (opLdHlSpE8 n s)

/-- `LD SP,HL` (rule R233). -/
def execLdSpHl (s : State) : Result := .next (opLdSpHl s)

end Sys2Proof.Machine
end

