-- ==== Sys2Proof/Machine/Load8.lean ====
section
/-! DEFINITION. 8-bit loads and stores (spec/40_load8.md). PC is already past the instruction and an immediate is the
constructor's argument (rules R24 and R401); no flag is read or written. -/

namespace Sys2Proof.Machine

/-! ## Shared operations -/

/-- `LD r,r'` (rule R200). -/
def opLdRegReg (dst src : Reg8) (s : State) : State := { s with cpu := s.cpu.setReg dst (s.cpu.reg src) }.cost 1

/-- `LD r,d8` (rule R201). -/
def opLdRegImm (dst : Reg8) (n : Byte) (s : State) : State := { s with cpu := s.cpu.setReg dst n }.cost 2

/-- A register loaded from the byte at an address: the read, then the register (rules R202 and R205 to R217). -/
def State.loadReg (s : State) (dst : Reg8) (a : Word) : State :=
  { s.noteRead a with cpu := s.cpu.setReg dst (s.busRead a) }

/-- `LD r,(HL)` (rule R202). -/
def opLdRegHl (dst : Reg8) (s : State) : State := (s.loadReg dst s.cpu.hl).cost 2

/-- `LD (HL),r` (rule R203). -/
def opLdHlReg (src : Reg8) (s : State) : State := (s.busWrite s.cpu.hl (s.cpu.reg src)).cost 2

/-- `LD (HL),d8` (rule R204). -/
def opLdHlImm (n : Byte) (s : State) : State := (s.busWrite s.cpu.hl n).cost 3

/-- `LD A,(BC)` and `LD A,(DE)` (rules R205 and R206). -/
def opLdAInd (p : IndPair) (s : State) : State := (s.loadReg .a (s.cpu.indAddr p)).cost 2

/-- `LD (BC),A` and `LD (DE),A` (rules R207 and R208). -/
def opLdIndA (p : IndPair) (s : State) : State := (s.busWrite (s.cpu.indAddr p) s.cpu.a).cost 2

/-- HL moved by one, after the access (rules R209 to R212). -/
def State.stepHl (s : State) (st : HlStep) (a : Word) : State := { s with cpu := s.cpu.setHl (hlStepped st a) }

/-- `LD A,(HL+)` and `LD A,(HL-)` (rules R209 and R211). -/
def opLdAHlStep (st : HlStep) (s : State) : State := ((s.loadReg .a s.cpu.hl).stepHl st s.cpu.hl).cost 2

/-- `LD (HL+),A` and `LD (HL-),A` (rules R210 and R212). -/
def opLdHlStepA (st : HlStep) (s : State) : State := ((s.busWrite s.cpu.hl s.cpu.a).stepHl st s.cpu.hl).cost 2

/-- `LD A,(a16)` (rule R213). -/
def opLdAAbs (a : Word) (s : State) : State := (s.loadReg .a a).cost 4

/-- `LD (a16),A` (rule R214). -/
def opLdAbsA (a : Word) (s : State) : State := (s.busWrite a s.cpu.a).cost 4

/-- `LDH A,(a8)` (rule R215). -/
def opLdhA (n : Byte) (s : State) : State := (s.loadReg .a (highAddr n)).cost 3

/-- `LDH (a8),A` (rule R216). -/
def opLdhStoreA (n : Byte) (s : State) : State := (s.busWrite (highAddr n) s.cpu.a).cost 3

/-- `LD A,(C)` (rule R217). -/
def opLdAHighC (s : State) : State := (s.loadReg .a (highAddr s.cpu.c)).cost 2

/-- `LD (C),A` (rule R218). -/
def opLdHighCA (s : State) : State := (s.busWrite (highAddr s.cpu.c) s.cpu.a).cost 2

/-! ## One meaning per instruction -/

/-- `LD (BC),A` (rule R207). -/
def execLdMemBcA (s : State) : Result := .next (opLdIndA .bc s)

/-- `LD B,d8` (rule R201). -/
def execLdBD8 (n : Byte) (s : State) : Result := .next (opLdRegImm .b n s)

/-- `LD A,(BC)` (rule R205). -/
def execLdAMemBc (s : State) : Result := .next (opLdAInd .bc s)

/-- `LD C,d8` (rule R201). -/
def execLdCD8 (n : Byte) (s : State) : Result := .next (opLdRegImm .c n s)

/-- `LD (DE),A` (rule R208). -/
def execLdMemDeA (s : State) : Result := .next (opLdIndA .de s)

/-- `LD D,d8` (rule R201). -/
def execLdDD8 (n : Byte) (s : State) : Result := .next (opLdRegImm .d n s)

/-- `LD A,(DE)` (rule R206). -/
def execLdAMemDe (s : State) : Result := .next (opLdAInd .de s)

/-- `LD E,d8` (rule R201). -/
def execLdED8 (n : Byte) (s : State) : Result := .next (opLdRegImm .e n s)

/-- `LD (HL+),A` (rule R210). -/
def execLdMemHlIncA (s : State) : Result := .next (opLdHlStepA .inc s)

/-- `LD H,d8` (rule R201). -/
def execLdHD8 (n : Byte) (s : State) : Result := .next (opLdRegImm .h n s)

/-- `LD A,(HL+)` (rule R209). -/
def execLdAMemHlInc (s : State) : Result := .next (opLdAHlStep .inc s)

/-- `LD L,d8` (rule R201). -/
def execLdLD8 (n : Byte) (s : State) : Result := .next (opLdRegImm .l n s)

/-- `LD (HL-),A` (rule R212). -/
def execLdMemHlDecA (s : State) : Result := .next (opLdHlStepA .dec s)

/-- `LD (HL),d8` (rule R204). -/
def execLdMemHlD8 (n : Byte) (s : State) : Result := .next (opLdHlImm n s)

/-- `LD A,(HL-)` (rule R211). -/
def execLdAMemHlDec (s : State) : Result := .next (opLdAHlStep .dec s)

/-- `LD A,d8` (rule R201). -/
def execLdAD8 (n : Byte) (s : State) : Result := .next (opLdRegImm .a n s)

/-- `LD B,B` (rule R200). -/
def execLdBB (s : State) : Result := .next (opLdRegReg .b .b s)

/-- `LD B,C` (rule R200). -/
def execLdBC (s : State) : Result := .next (opLdRegReg .b .c s)

/-- `LD B,D` (rule R200). -/
def execLdBD (s : State) : Result := .next (opLdRegReg .b .d s)

/-- `LD B,E` (rule R200). -/
def execLdBE (s : State) : Result := .next (opLdRegReg .b .e s)

/-- `LD B,H` (rule R200). -/
def execLdBH (s : State) : Result := .next (opLdRegReg .b .h s)

/-- `LD B,L` (rule R200). -/
def execLdBL (s : State) : Result := .next (opLdRegReg .b .l s)

/-- `LD B,(HL)` (rule R202). -/
def execLdBMemHl (s : State) : Result := .next (opLdRegHl .b s)

/-- `LD B,A` (rule R200). -/
def execLdBA (s : State) : Result := .next (opLdRegReg .b .a s)

/-- `LD C,B` (rule R200). -/
def execLdCB (s : State) : Result := .next (opLdRegReg .c .b s)

/-- `LD C,C` (rule R200). -/
def execLdCC (s : State) : Result := .next (opLdRegReg .c .c s)

/-- `LD C,D` (rule R200). -/
def execLdCD (s : State) : Result := .next (opLdRegReg .c .d s)

/-- `LD C,E` (rule R200). -/
def execLdCE (s : State) : Result := .next (opLdRegReg .c .e s)

/-- `LD C,H` (rule R200). -/
def execLdCH (s : State) : Result := .next (opLdRegReg .c .h s)

/-- `LD C,L` (rule R200). -/
def execLdCL (s : State) : Result := .next (opLdRegReg .c .l s)

/-- `LD C,(HL)` (rule R202). -/
def execLdCMemHl (s : State) : Result := .next (opLdRegHl .c s)

/-- `LD C,A` (rule R200). -/
def execLdCA (s : State) : Result := .next (opLdRegReg .c .a s)

/-- `LD D,B` (rule R200). -/
def execLdDB (s : State) : Result := .next (opLdRegReg .d .b s)

/-- `LD D,C` (rule R200). -/
def execLdDC (s : State) : Result := .next (opLdRegReg .d .c s)

/-- `LD D,D` (rule R200). -/
def execLdDD (s : State) : Result := .next (opLdRegReg .d .d s)

/-- `LD D,E` (rule R200). -/
def execLdDE (s : State) : Result := .next (opLdRegReg .d .e s)

/-- `LD D,H` (rule R200). -/
def execLdDH (s : State) : Result := .next (opLdRegReg .d .h s)

/-- `LD D,L` (rule R200). -/
def execLdDL (s : State) : Result := .next (opLdRegReg .d .l s)

/-- `LD D,(HL)` (rule R202). -/
def execLdDMemHl (s : State) : Result := .next (opLdRegHl .d s)

/-- `LD D,A` (rule R200). -/
def execLdDA (s : State) : Result := .next (opLdRegReg .d .a s)

/-- `LD E,B` (rule R200). -/
def execLdEB (s : State) : Result := .next (opLdRegReg .e .b s)

/-- `LD E,C` (rule R200). -/
def execLdEC (s : State) : Result := .next (opLdRegReg .e .c s)

/-- `LD E,D` (rule R200). -/
def execLdED (s : State) : Result := .next (opLdRegReg .e .d s)

/-- `LD E,E` (rule R200). -/
def execLdEE (s : State) : Result := .next (opLdRegReg .e .e s)

/-- `LD E,H` (rule R200). -/
def execLdEH (s : State) : Result := .next (opLdRegReg .e .h s)

/-- `LD E,L` (rule R200). -/
def execLdEL (s : State) : Result := .next (opLdRegReg .e .l s)

/-- `LD E,(HL)` (rule R202). -/
def execLdEMemHl (s : State) : Result := .next (opLdRegHl .e s)

/-- `LD E,A` (rule R200). -/
def execLdEA (s : State) : Result := .next (opLdRegReg .e .a s)

/-- `LD H,B` (rule R200). -/
def execLdHB (s : State) : Result := .next (opLdRegReg .h .b s)

/-- `LD H,C` (rule R200). -/
def execLdHC (s : State) : Result := .next (opLdRegReg .h .c s)

/-- `LD H,D` (rule R200). -/
def execLdHD (s : State) : Result := .next (opLdRegReg .h .d s)

/-- `LD H,E` (rule R200). -/
def execLdHE (s : State) : Result := .next (opLdRegReg .h .e s)

/-- `LD H,H` (rule R200). -/
def execLdHH (s : State) : Result := .next (opLdRegReg .h .h s)

/-- `LD H,L` (rule R200). -/
def execLdHL (s : State) : Result := .next (opLdRegReg .h .l s)

/-- `LD H,(HL)` (rule R202). -/
def execLdHMemHl (s : State) : Result := .next (opLdRegHl .h s)

/-- `LD H,A` (rule R200). -/
def execLdHA (s : State) : Result := .next (opLdRegReg .h .a s)

/-- `LD L,B` (rule R200). -/
def execLdLB (s : State) : Result := .next (opLdRegReg .l .b s)

/-- `LD L,C` (rule R200). -/
def execLdLC (s : State) : Result := .next (opLdRegReg .l .c s)

/-- `LD L,D` (rule R200). -/
def execLdLD (s : State) : Result := .next (opLdRegReg .l .d s)

/-- `LD L,E` (rule R200). -/
def execLdLE (s : State) : Result := .next (opLdRegReg .l .e s)

/-- `LD L,H` (rule R200). -/
def execLdLH (s : State) : Result := .next (opLdRegReg .l .h s)

/-- `LD L,L` (rule R200). -/
def execLdLL (s : State) : Result := .next (opLdRegReg .l .l s)

/-- `LD L,(HL)` (rule R202). -/
def execLdLMemHl (s : State) : Result := .next (opLdRegHl .l s)

/-- `LD L,A` (rule R200). -/
def execLdLA (s : State) : Result := .next (opLdRegReg .l .a s)

/-- `LD (HL),B` (rule R203). -/
def execLdMemHlB (s : State) : Result := .next (opLdHlReg .b s)

/-- `LD (HL),C` (rule R203). -/
def execLdMemHlC (s : State) : Result := .next (opLdHlReg .c s)

/-- `LD (HL),D` (rule R203). -/
def execLdMemHlD (s : State) : Result := .next (opLdHlReg .d s)

/-- `LD (HL),E` (rule R203). -/
def execLdMemHlE (s : State) : Result := .next (opLdHlReg .e s)

/-- `LD (HL),H` (rule R203). -/
def execLdMemHlH (s : State) : Result := .next (opLdHlReg .h s)

/-- `LD (HL),L` (rule R203). -/
def execLdMemHlL (s : State) : Result := .next (opLdHlReg .l s)

/-- `LD (HL),A` (rule R203). -/
def execLdMemHlA (s : State) : Result := .next (opLdHlReg .a s)

/-- `LD A,B` (rule R200). -/
def execLdAB (s : State) : Result := .next (opLdRegReg .a .b s)

/-- `LD A,C` (rule R200). -/
def execLdAC (s : State) : Result := .next (opLdRegReg .a .c s)

/-- `LD A,D` (rule R200). -/
def execLdAD (s : State) : Result := .next (opLdRegReg .a .d s)

/-- `LD A,E` (rule R200). -/
def execLdAE (s : State) : Result := .next (opLdRegReg .a .e s)

/-- `LD A,H` (rule R200). -/
def execLdAH (s : State) : Result := .next (opLdRegReg .a .h s)

/-- `LD A,L` (rule R200). -/
def execLdAL (s : State) : Result := .next (opLdRegReg .a .l s)

/-- `LD A,(HL)` (rule R202). -/
def execLdAMemHl (s : State) : Result := .next (opLdRegHl .a s)

/-- `LD A,A` (rule R200). -/
def execLdAA (s : State) : Result := .next (opLdRegReg .a .a s)

/-- `LDH (a8),A` (rule R216). -/
def execLdhMemA8A (n : Byte) (s : State) : Result := .next (opLdhStoreA n s)

/-- `LD (C),A` (rule R218). -/
def execLdMemCA (s : State) : Result := .next (opLdHighCA s)

/-- `LD (a16),A` (rule R214). -/
def execLdMemA16A (v : Word) (s : State) : Result := .next (opLdAbsA v s)

/-- `LDH A,(a8)` (rule R215). -/
def execLdhAMemA8 (n : Byte) (s : State) : Result := .next (opLdhA n s)

/-- `LD A,(C)` (rule R217). -/
def execLdAMemC (s : State) : Result := .next (opLdAHighC s)

/-- `LD A,(a16)` (rule R213). -/
def execLdAMemA16 (v : Word) (s : State) : Result := .next (opLdAAbs v s)

end Sys2Proof.Machine
end

