-- ==== Sys2Proof/Machine/Rotate.lean ====
section
/-! DEFINITION. Rotates, shifts, `SWAP` and bit operations (spec/44_rotate_shift_bit.md). -/

namespace Sys2Proof.Machine

/-! ## Shared operations -/

/-- `RLCA`, `RRCA`, `RLA`, `RRA` (rules R300 to R303). -/
def opRotA (op : AccRotOp) (s : State) : State :=
  let x := rotAcc op s.cpu.a s.cpu.f.c
  { s with cpu := { s.cpu with a := x.1, f := rotAccFlags x.2 } }.cost 1

/-- `RLC RRC RL RR SLA SRA SWAP SRL`: read, write back, flags (rules R309 to R317). -/
def opRot (op : RotOp) (o : Loc8) (s : State) : State :=
  let x := rotShift op (s.readLoc o) s.cpu.f.c
  let s1 := (s.noteLoc o).writeLoc o x.1
  { s1 with cpu := { s1.cpu with f := rotFlags x.1 x.2 } }.cost (cbCost o)

/-- `BIT y,r`: nothing is written back (rules R309 and R318). -/
def opBit (n : BitVec 3) (o : Loc8) (s : State) : State :=
  { s.noteLoc o with cpu := { s.cpu with f := bitFlags (s.readLoc o) n s.cpu.f } }.cost (bitCost o)

/-- `RES y,r` (rules R309 and R319). -/
def opRes (n : BitVec 3) (o : Loc8) (s : State) : State :=
  ((s.noteLoc o).writeLoc o (resBit (s.readLoc o) n)).cost (cbCost o)

/-- `SET y,r` (rules R309 and R320). -/
def opSet (n : BitVec 3) (o : Loc8) (s : State) : State :=
  ((s.noteLoc o).writeLoc o (setBit (s.readLoc o) n)).cost (cbCost o)

/-! ## One meaning per instruction -/

/-- `RLCA` (rule R300). -/
def execRlca (s : State) : Result := .next (opRotA .rlc s)

/-- `RRCA` (rule R301). -/
def execRrca (s : State) : Result := .next (opRotA .rrc s)

/-- `RLA` (rule R302). -/
def execRla (s : State) : Result := .next (opRotA .rl s)

/-- `RRA` (rule R303). -/
def execRra (s : State) : Result := .next (opRotA .rr s)

/-- `RLC B` (rule R310). -/
def execRlcB (s : State) : Result := .next (opRot .rlc (.reg .b) s)

/-- `RLC C` (rule R310). -/
def execRlcC (s : State) : Result := .next (opRot .rlc (.reg .c) s)

/-- `RLC D` (rule R310). -/
def execRlcD (s : State) : Result := .next (opRot .rlc (.reg .d) s)

/-- `RLC E` (rule R310). -/
def execRlcE (s : State) : Result := .next (opRot .rlc (.reg .e) s)

/-- `RLC H` (rule R310). -/
def execRlcH (s : State) : Result := .next (opRot .rlc (.reg .h) s)

/-- `RLC L` (rule R310). -/
def execRlcL (s : State) : Result := .next (opRot .rlc (.reg .l) s)

/-- `RLC (HL)` (rule R310). -/
def execRlcMemHl (s : State) : Result := .next (opRot .rlc .mem s)

/-- `RLC A` (rule R310). -/
def execRlcA (s : State) : Result := .next (opRot .rlc (.reg .a) s)

/-- `RRC B` (rule R311). -/
def execRrcB (s : State) : Result := .next (opRot .rrc (.reg .b) s)

/-- `RRC C` (rule R311). -/
def execRrcC (s : State) : Result := .next (opRot .rrc (.reg .c) s)

/-- `RRC D` (rule R311). -/
def execRrcD (s : State) : Result := .next (opRot .rrc (.reg .d) s)

/-- `RRC E` (rule R311). -/
def execRrcE (s : State) : Result := .next (opRot .rrc (.reg .e) s)

/-- `RRC H` (rule R311). -/
def execRrcH (s : State) : Result := .next (opRot .rrc (.reg .h) s)

/-- `RRC L` (rule R311). -/
def execRrcL (s : State) : Result := .next (opRot .rrc (.reg .l) s)

/-- `RRC (HL)` (rule R311). -/
def execRrcMemHl (s : State) : Result := .next (opRot .rrc .mem s)

/-- `RRC A` (rule R311). -/
def execRrcA (s : State) : Result := .next (opRot .rrc (.reg .a) s)

/-- `RL B` (rule R312). -/
def execRlB (s : State) : Result := .next (opRot .rl (.reg .b) s)

/-- `RL C` (rule R312). -/
def execRlC (s : State) : Result := .next (opRot .rl (.reg .c) s)

/-- `RL D` (rule R312). -/
def execRlD (s : State) : Result := .next (opRot .rl (.reg .d) s)

/-- `RL E` (rule R312). -/
def execRlE (s : State) : Result := .next (opRot .rl (.reg .e) s)

/-- `RL H` (rule R312). -/
def execRlH (s : State) : Result := .next (opRot .rl (.reg .h) s)

/-- `RL L` (rule R312). -/
def execRlL (s : State) : Result := .next (opRot .rl (.reg .l) s)

/-- `RL (HL)` (rule R312). -/
def execRlMemHl (s : State) : Result := .next (opRot .rl .mem s)

/-- `RL A` (rule R312). -/
def execRlA (s : State) : Result := .next (opRot .rl (.reg .a) s)

/-- `RR B` (rule R313). -/
def execRrB (s : State) : Result := .next (opRot .rr (.reg .b) s)

/-- `RR C` (rule R313). -/
def execRrC (s : State) : Result := .next (opRot .rr (.reg .c) s)

/-- `RR D` (rule R313). -/
def execRrD (s : State) : Result := .next (opRot .rr (.reg .d) s)

/-- `RR E` (rule R313). -/
def execRrE (s : State) : Result := .next (opRot .rr (.reg .e) s)

/-- `RR H` (rule R313). -/
def execRrH (s : State) : Result := .next (opRot .rr (.reg .h) s)

/-- `RR L` (rule R313). -/
def execRrL (s : State) : Result := .next (opRot .rr (.reg .l) s)

/-- `RR (HL)` (rule R313). -/
def execRrMemHl (s : State) : Result := .next (opRot .rr .mem s)

/-- `RR A` (rule R313). -/
def execRrA (s : State) : Result := .next (opRot .rr (.reg .a) s)

/-- `SLA B` (rule R314). -/
def execSlaB (s : State) : Result := .next (opRot .sla (.reg .b) s)

/-- `SLA C` (rule R314). -/
def execSlaC (s : State) : Result := .next (opRot .sla (.reg .c) s)

/-- `SLA D` (rule R314). -/
def execSlaD (s : State) : Result := .next (opRot .sla (.reg .d) s)

/-- `SLA E` (rule R314). -/
def execSlaE (s : State) : Result := .next (opRot .sla (.reg .e) s)

/-- `SLA H` (rule R314). -/
def execSlaH (s : State) : Result := .next (opRot .sla (.reg .h) s)

/-- `SLA L` (rule R314). -/
def execSlaL (s : State) : Result := .next (opRot .sla (.reg .l) s)

/-- `SLA (HL)` (rule R314). -/
def execSlaMemHl (s : State) : Result := .next (opRot .sla .mem s)

/-- `SLA A` (rule R314). -/
def execSlaA (s : State) : Result := .next (opRot .sla (.reg .a) s)

/-- `SRA B` (rule R315). -/
def execSraB (s : State) : Result := .next (opRot .sra (.reg .b) s)

/-- `SRA C` (rule R315). -/
def execSraC (s : State) : Result := .next (opRot .sra (.reg .c) s)

/-- `SRA D` (rule R315). -/
def execSraD (s : State) : Result := .next (opRot .sra (.reg .d) s)

/-- `SRA E` (rule R315). -/
def execSraE (s : State) : Result := .next (opRot .sra (.reg .e) s)

/-- `SRA H` (rule R315). -/
def execSraH (s : State) : Result := .next (opRot .sra (.reg .h) s)

/-- `SRA L` (rule R315). -/
def execSraL (s : State) : Result := .next (opRot .sra (.reg .l) s)

/-- `SRA (HL)` (rule R315). -/
def execSraMemHl (s : State) : Result := .next (opRot .sra .mem s)

/-- `SRA A` (rule R315). -/
def execSraA (s : State) : Result := .next (opRot .sra (.reg .a) s)

/-- `SWAP B` (rule R316). -/
def execSwapB (s : State) : Result := .next (opRot .swap (.reg .b) s)

/-- `SWAP C` (rule R316). -/
def execSwapC (s : State) : Result := .next (opRot .swap (.reg .c) s)

/-- `SWAP D` (rule R316). -/
def execSwapD (s : State) : Result := .next (opRot .swap (.reg .d) s)

/-- `SWAP E` (rule R316). -/
def execSwapE (s : State) : Result := .next (opRot .swap (.reg .e) s)

/-- `SWAP H` (rule R316). -/
def execSwapH (s : State) : Result := .next (opRot .swap (.reg .h) s)

/-- `SWAP L` (rule R316). -/
def execSwapL (s : State) : Result := .next (opRot .swap (.reg .l) s)

/-- `SWAP (HL)` (rule R316). -/
def execSwapMemHl (s : State) : Result := .next (opRot .swap .mem s)

/-- `SWAP A` (rule R316). -/
def execSwapA (s : State) : Result := .next (opRot .swap (.reg .a) s)

/-- `SRL B` (rule R317). -/
def execSrlB (s : State) : Result := .next (opRot .srl (.reg .b) s)

/-- `SRL C` (rule R317). -/
def execSrlC (s : State) : Result := .next (opRot .srl (.reg .c) s)

/-- `SRL D` (rule R317). -/
def execSrlD (s : State) : Result := .next (opRot .srl (.reg .d) s)

/-- `SRL E` (rule R317). -/
def execSrlE (s : State) : Result := .next (opRot .srl (.reg .e) s)

/-- `SRL H` (rule R317). -/
def execSrlH (s : State) : Result := .next (opRot .srl (.reg .h) s)

/-- `SRL L` (rule R317). -/
def execSrlL (s : State) : Result := .next (opRot .srl (.reg .l) s)

/-- `SRL (HL)` (rule R317). -/
def execSrlMemHl (s : State) : Result := .next (opRot .srl .mem s)

/-- `SRL A` (rule R317). -/
def execSrlA (s : State) : Result := .next (opRot .srl (.reg .a) s)

/-- `BIT 0,B` (rule R318). -/
def execBit0B (s : State) : Result := .next (opBit 0 (.reg .b) s)

/-- `BIT 0,C` (rule R318). -/
def execBit0C (s : State) : Result := .next (opBit 0 (.reg .c) s)

/-- `BIT 0,D` (rule R318). -/
def execBit0D (s : State) : Result := .next (opBit 0 (.reg .d) s)

/-- `BIT 0,E` (rule R318). -/
def execBit0E (s : State) : Result := .next (opBit 0 (.reg .e) s)

/-- `BIT 0,H` (rule R318). -/
def execBit0H (s : State) : Result := .next (opBit 0 (.reg .h) s)

/-- `BIT 0,L` (rule R318). -/
def execBit0L (s : State) : Result := .next (opBit 0 (.reg .l) s)

/-- `BIT 0,(HL)` (rule R318). -/
def execBit0MemHl (s : State) : Result := .next (opBit 0 .mem s)

/-- `BIT 0,A` (rule R318). -/
def execBit0A (s : State) : Result := .next (opBit 0 (.reg .a) s)

/-- `BIT 1,B` (rule R318). -/
def execBit1B (s : State) : Result := .next (opBit 1 (.reg .b) s)

/-- `BIT 1,C` (rule R318). -/
def execBit1C (s : State) : Result := .next (opBit 1 (.reg .c) s)

/-- `BIT 1,D` (rule R318). -/
def execBit1D (s : State) : Result := .next (opBit 1 (.reg .d) s)

/-- `BIT 1,E` (rule R318). -/
def execBit1E (s : State) : Result := .next (opBit 1 (.reg .e) s)

/-- `BIT 1,H` (rule R318). -/
def execBit1H (s : State) : Result := .next (opBit 1 (.reg .h) s)

/-- `BIT 1,L` (rule R318). -/
def execBit1L (s : State) : Result := .next (opBit 1 (.reg .l) s)

/-- `BIT 1,(HL)` (rule R318). -/
def execBit1MemHl (s : State) : Result := .next (opBit 1 .mem s)

/-- `BIT 1,A` (rule R318). -/
def execBit1A (s : State) : Result := .next (opBit 1 (.reg .a) s)

/-- `BIT 2,B` (rule R318). -/
def execBit2B (s : State) : Result := .next (opBit 2 (.reg .b) s)

/-- `BIT 2,C` (rule R318). -/
def execBit2C (s : State) : Result := .next (opBit 2 (.reg .c) s)

/-- `BIT 2,D` (rule R318). -/
def execBit2D (s : State) : Result := .next (opBit 2 (.reg .d) s)

/-- `BIT 2,E` (rule R318). -/
def execBit2E (s : State) : Result := .next (opBit 2 (.reg .e) s)

/-- `BIT 2,H` (rule R318). -/
def execBit2H (s : State) : Result := .next (opBit 2 (.reg .h) s)

/-- `BIT 2,L` (rule R318). -/
def execBit2L (s : State) : Result := .next (opBit 2 (.reg .l) s)

/-- `BIT 2,(HL)` (rule R318). -/
def execBit2MemHl (s : State) : Result := .next (opBit 2 .mem s)

/-- `BIT 2,A` (rule R318). -/
def execBit2A (s : State) : Result := .next (opBit 2 (.reg .a) s)

/-- `BIT 3,B` (rule R318). -/
def execBit3B (s : State) : Result := .next (opBit 3 (.reg .b) s)

/-- `BIT 3,C` (rule R318). -/
def execBit3C (s : State) : Result := .next (opBit 3 (.reg .c) s)

/-- `BIT 3,D` (rule R318). -/
def execBit3D (s : State) : Result := .next (opBit 3 (.reg .d) s)

/-- `BIT 3,E` (rule R318). -/
def execBit3E (s : State) : Result := .next (opBit 3 (.reg .e) s)

/-- `BIT 3,H` (rule R318). -/
def execBit3H (s : State) : Result := .next (opBit 3 (.reg .h) s)

/-- `BIT 3,L` (rule R318). -/
def execBit3L (s : State) : Result := .next (opBit 3 (.reg .l) s)

/-- `BIT 3,(HL)` (rule R318). -/
def execBit3MemHl (s : State) : Result := .next (opBit 3 .mem s)

/-- `BIT 3,A` (rule R318). -/
def execBit3A (s : State) : Result := .next (opBit 3 (.reg .a) s)

/-- `BIT 4,B` (rule R318). -/
def execBit4B (s : State) : Result := .next (opBit 4 (.reg .b) s)

/-- `BIT 4,C` (rule R318). -/
def execBit4C (s : State) : Result := .next (opBit 4 (.reg .c) s)

/-- `BIT 4,D` (rule R318). -/
def execBit4D (s : State) : Result := .next (opBit 4 (.reg .d) s)

/-- `BIT 4,E` (rule R318). -/
def execBit4E (s : State) : Result := .next (opBit 4 (.reg .e) s)

/-- `BIT 4,H` (rule R318). -/
def execBit4H (s : State) : Result := .next (opBit 4 (.reg .h) s)

/-- `BIT 4,L` (rule R318). -/
def execBit4L (s : State) : Result := .next (opBit 4 (.reg .l) s)

/-- `BIT 4,(HL)` (rule R318). -/
def execBit4MemHl (s : State) : Result := .next (opBit 4 .mem s)

/-- `BIT 4,A` (rule R318). -/
def execBit4A (s : State) : Result := .next (opBit 4 (.reg .a) s)

/-- `BIT 5,B` (rule R318). -/
def execBit5B (s : State) : Result := .next (opBit 5 (.reg .b) s)

/-- `BIT 5,C` (rule R318). -/
def execBit5C (s : State) : Result := .next (opBit 5 (.reg .c) s)

/-- `BIT 5,D` (rule R318). -/
def execBit5D (s : State) : Result := .next (opBit 5 (.reg .d) s)

/-- `BIT 5,E` (rule R318). -/
def execBit5E (s : State) : Result := .next (opBit 5 (.reg .e) s)

/-- `BIT 5,H` (rule R318). -/
def execBit5H (s : State) : Result := .next (opBit 5 (.reg .h) s)

/-- `BIT 5,L` (rule R318). -/
def execBit5L (s : State) : Result := .next (opBit 5 (.reg .l) s)

/-- `BIT 5,(HL)` (rule R318). -/
def execBit5MemHl (s : State) : Result := .next (opBit 5 .mem s)

/-- `BIT 5,A` (rule R318). -/
def execBit5A (s : State) : Result := .next (opBit 5 (.reg .a) s)

/-- `BIT 6,B` (rule R318). -/
def execBit6B (s : State) : Result := .next (opBit 6 (.reg .b) s)

/-- `BIT 6,C` (rule R318). -/
def execBit6C (s : State) : Result := .next (opBit 6 (.reg .c) s)

/-- `BIT 6,D` (rule R318). -/
def execBit6D (s : State) : Result := .next (opBit 6 (.reg .d) s)

/-- `BIT 6,E` (rule R318). -/
def execBit6E (s : State) : Result := .next (opBit 6 (.reg .e) s)

/-- `BIT 6,H` (rule R318). -/
def execBit6H (s : State) : Result := .next (opBit 6 (.reg .h) s)

/-- `BIT 6,L` (rule R318). -/
def execBit6L (s : State) : Result := .next (opBit 6 (.reg .l) s)

/-- `BIT 6,(HL)` (rule R318). -/
def execBit6MemHl (s : State) : Result := .next (opBit 6 .mem s)

/-- `BIT 6,A` (rule R318). -/
def execBit6A (s : State) : Result := .next (opBit 6 (.reg .a) s)

/-- `BIT 7,B` (rule R318). -/
def execBit7B (s : State) : Result := .next (opBit 7 (.reg .b) s)

/-- `BIT 7,C` (rule R318). -/
def execBit7C (s : State) : Result := .next (opBit 7 (.reg .c) s)

/-- `BIT 7,D` (rule R318). -/
def execBit7D (s : State) : Result := .next (opBit 7 (.reg .d) s)

/-- `BIT 7,E` (rule R318). -/
def execBit7E (s : State) : Result := .next (opBit 7 (.reg .e) s)

/-- `BIT 7,H` (rule R318). -/
def execBit7H (s : State) : Result := .next (opBit 7 (.reg .h) s)

/-- `BIT 7,L` (rule R318). -/
def execBit7L (s : State) : Result := .next (opBit 7 (.reg .l) s)

/-- `BIT 7,(HL)` (rule R318). -/
def execBit7MemHl (s : State) : Result := .next (opBit 7 .mem s)

/-- `BIT 7,A` (rule R318). -/
def execBit7A (s : State) : Result := .next (opBit 7 (.reg .a) s)

/-- `RES 0,B` (rule R319). -/
def execRes0B (s : State) : Result := .next (opRes 0 (.reg .b) s)

/-- `RES 0,C` (rule R319). -/
def execRes0C (s : State) : Result := .next (opRes 0 (.reg .c) s)

/-- `RES 0,D` (rule R319). -/
def execRes0D (s : State) : Result := .next (opRes 0 (.reg .d) s)

/-- `RES 0,E` (rule R319). -/
def execRes0E (s : State) : Result := .next (opRes 0 (.reg .e) s)

/-- `RES 0,H` (rule R319). -/
def execRes0H (s : State) : Result := .next (opRes 0 (.reg .h) s)

/-- `RES 0,L` (rule R319). -/
def execRes0L (s : State) : Result := .next (opRes 0 (.reg .l) s)

/-- `RES 0,(HL)` (rule R319). -/
def execRes0MemHl (s : State) : Result := .next (opRes 0 .mem s)

/-- `RES 0,A` (rule R319). -/
def execRes0A (s : State) : Result := .next (opRes 0 (.reg .a) s)

/-- `RES 1,B` (rule R319). -/
def execRes1B (s : State) : Result := .next (opRes 1 (.reg .b) s)

/-- `RES 1,C` (rule R319). -/
def execRes1C (s : State) : Result := .next (opRes 1 (.reg .c) s)

/-- `RES 1,D` (rule R319). -/
def execRes1D (s : State) : Result := .next (opRes 1 (.reg .d) s)

/-- `RES 1,E` (rule R319). -/
def execRes1E (s : State) : Result := .next (opRes 1 (.reg .e) s)

/-- `RES 1,H` (rule R319). -/
def execRes1H (s : State) : Result := .next (opRes 1 (.reg .h) s)

/-- `RES 1,L` (rule R319). -/
def execRes1L (s : State) : Result := .next (opRes 1 (.reg .l) s)

/-- `RES 1,(HL)` (rule R319). -/
def execRes1MemHl (s : State) : Result := .next (opRes 1 .mem s)

/-- `RES 1,A` (rule R319). -/
def execRes1A (s : State) : Result := .next (opRes 1 (.reg .a) s)

/-- `RES 2,B` (rule R319). -/
def execRes2B (s : State) : Result := .next (opRes 2 (.reg .b) s)

/-- `RES 2,C` (rule R319). -/
def execRes2C (s : State) : Result := .next (opRes 2 (.reg .c) s)

/-- `RES 2,D` (rule R319). -/
def execRes2D (s : State) : Result := .next (opRes 2 (.reg .d) s)

/-- `RES 2,E` (rule R319). -/
def execRes2E (s : State) : Result := .next (opRes 2 (.reg .e) s)

/-- `RES 2,H` (rule R319). -/
def execRes2H (s : State) : Result := .next (opRes 2 (.reg .h) s)

/-- `RES 2,L` (rule R319). -/
def execRes2L (s : State) : Result := .next (opRes 2 (.reg .l) s)

/-- `RES 2,(HL)` (rule R319). -/
def execRes2MemHl (s : State) : Result := .next (opRes 2 .mem s)

/-- `RES 2,A` (rule R319). -/
def execRes2A (s : State) : Result := .next (opRes 2 (.reg .a) s)

/-- `RES 3,B` (rule R319). -/
def execRes3B (s : State) : Result := .next (opRes 3 (.reg .b) s)

/-- `RES 3,C` (rule R319). -/
def execRes3C (s : State) : Result := .next (opRes 3 (.reg .c) s)

/-- `RES 3,D` (rule R319). -/
def execRes3D (s : State) : Result := .next (opRes 3 (.reg .d) s)

/-- `RES 3,E` (rule R319). -/
def execRes3E (s : State) : Result := .next (opRes 3 (.reg .e) s)

/-- `RES 3,H` (rule R319). -/
def execRes3H (s : State) : Result := .next (opRes 3 (.reg .h) s)

/-- `RES 3,L` (rule R319). -/
def execRes3L (s : State) : Result := .next (opRes 3 (.reg .l) s)

/-- `RES 3,(HL)` (rule R319). -/
def execRes3MemHl (s : State) : Result := .next (opRes 3 .mem s)

/-- `RES 3,A` (rule R319). -/
def execRes3A (s : State) : Result := .next (opRes 3 (.reg .a) s)

/-- `RES 4,B` (rule R319). -/
def execRes4B (s : State) : Result := .next (opRes 4 (.reg .b) s)

/-- `RES 4,C` (rule R319). -/
def execRes4C (s : State) : Result := .next (opRes 4 (.reg .c) s)

/-- `RES 4,D` (rule R319). -/
def execRes4D (s : State) : Result := .next (opRes 4 (.reg .d) s)

/-- `RES 4,E` (rule R319). -/
def execRes4E (s : State) : Result := .next (opRes 4 (.reg .e) s)

/-- `RES 4,H` (rule R319). -/
def execRes4H (s : State) : Result := .next (opRes 4 (.reg .h) s)

/-- `RES 4,L` (rule R319). -/
def execRes4L (s : State) : Result := .next (opRes 4 (.reg .l) s)

/-- `RES 4,(HL)` (rule R319). -/
def execRes4MemHl (s : State) : Result := .next (opRes 4 .mem s)

/-- `RES 4,A` (rule R319). -/
def execRes4A (s : State) : Result := .next (opRes 4 (.reg .a) s)

/-- `RES 5,B` (rule R319). -/
def execRes5B (s : State) : Result := .next (opRes 5 (.reg .b) s)

/-- `RES 5,C` (rule R319). -/
def execRes5C (s : State) : Result := .next (opRes 5 (.reg .c) s)

/-- `RES 5,D` (rule R319). -/
def execRes5D (s : State) : Result := .next (opRes 5 (.reg .d) s)

/-- `RES 5,E` (rule R319). -/
def execRes5E (s : State) : Result := .next (opRes 5 (.reg .e) s)

/-- `RES 5,H` (rule R319). -/
def execRes5H (s : State) : Result := .next (opRes 5 (.reg .h) s)

/-- `RES 5,L` (rule R319). -/
def execRes5L (s : State) : Result := .next (opRes 5 (.reg .l) s)

/-- `RES 5,(HL)` (rule R319). -/
def execRes5MemHl (s : State) : Result := .next (opRes 5 .mem s)

/-- `RES 5,A` (rule R319). -/
def execRes5A (s : State) : Result := .next (opRes 5 (.reg .a) s)

/-- `RES 6,B` (rule R319). -/
def execRes6B (s : State) : Result := .next (opRes 6 (.reg .b) s)

/-- `RES 6,C` (rule R319). -/
def execRes6C (s : State) : Result := .next (opRes 6 (.reg .c) s)

/-- `RES 6,D` (rule R319). -/
def execRes6D (s : State) : Result := .next (opRes 6 (.reg .d) s)

/-- `RES 6,E` (rule R319). -/
def execRes6E (s : State) : Result := .next (opRes 6 (.reg .e) s)

/-- `RES 6,H` (rule R319). -/
def execRes6H (s : State) : Result := .next (opRes 6 (.reg .h) s)

/-- `RES 6,L` (rule R319). -/
def execRes6L (s : State) : Result := .next (opRes 6 (.reg .l) s)

/-- `RES 6,(HL)` (rule R319). -/
def execRes6MemHl (s : State) : Result := .next (opRes 6 .mem s)

/-- `RES 6,A` (rule R319). -/
def execRes6A (s : State) : Result := .next (opRes 6 (.reg .a) s)

/-- `RES 7,B` (rule R319). -/
def execRes7B (s : State) : Result := .next (opRes 7 (.reg .b) s)

/-- `RES 7,C` (rule R319). -/
def execRes7C (s : State) : Result := .next (opRes 7 (.reg .c) s)

/-- `RES 7,D` (rule R319). -/
def execRes7D (s : State) : Result := .next (opRes 7 (.reg .d) s)

/-- `RES 7,E` (rule R319). -/
def execRes7E (s : State) : Result := .next (opRes 7 (.reg .e) s)

/-- `RES 7,H` (rule R319). -/
def execRes7H (s : State) : Result := .next (opRes 7 (.reg .h) s)

/-- `RES 7,L` (rule R319). -/
def execRes7L (s : State) : Result := .next (opRes 7 (.reg .l) s)

/-- `RES 7,(HL)` (rule R319). -/
def execRes7MemHl (s : State) : Result := .next (opRes 7 .mem s)

/-- `RES 7,A` (rule R319). -/
def execRes7A (s : State) : Result := .next (opRes 7 (.reg .a) s)

/-- `SET 0,B` (rule R320). -/
def execSet0B (s : State) : Result := .next (opSet 0 (.reg .b) s)

/-- `SET 0,C` (rule R320). -/
def execSet0C (s : State) : Result := .next (opSet 0 (.reg .c) s)

/-- `SET 0,D` (rule R320). -/
def execSet0D (s : State) : Result := .next (opSet 0 (.reg .d) s)

/-- `SET 0,E` (rule R320). -/
def execSet0E (s : State) : Result := .next (opSet 0 (.reg .e) s)

/-- `SET 0,H` (rule R320). -/
def execSet0H (s : State) : Result := .next (opSet 0 (.reg .h) s)

/-- `SET 0,L` (rule R320). -/
def execSet0L (s : State) : Result := .next (opSet 0 (.reg .l) s)

/-- `SET 0,(HL)` (rule R320). -/
def execSet0MemHl (s : State) : Result := .next (opSet 0 .mem s)

/-- `SET 0,A` (rule R320). -/
def execSet0A (s : State) : Result := .next (opSet 0 (.reg .a) s)

/-- `SET 1,B` (rule R320). -/
def execSet1B (s : State) : Result := .next (opSet 1 (.reg .b) s)

/-- `SET 1,C` (rule R320). -/
def execSet1C (s : State) : Result := .next (opSet 1 (.reg .c) s)

/-- `SET 1,D` (rule R320). -/
def execSet1D (s : State) : Result := .next (opSet 1 (.reg .d) s)

/-- `SET 1,E` (rule R320). -/
def execSet1E (s : State) : Result := .next (opSet 1 (.reg .e) s)

/-- `SET 1,H` (rule R320). -/
def execSet1H (s : State) : Result := .next (opSet 1 (.reg .h) s)

/-- `SET 1,L` (rule R320). -/
def execSet1L (s : State) : Result := .next (opSet 1 (.reg .l) s)

/-- `SET 1,(HL)` (rule R320). -/
def execSet1MemHl (s : State) : Result := .next (opSet 1 .mem s)

/-- `SET 1,A` (rule R320). -/
def execSet1A (s : State) : Result := .next (opSet 1 (.reg .a) s)

/-- `SET 2,B` (rule R320). -/
def execSet2B (s : State) : Result := .next (opSet 2 (.reg .b) s)

/-- `SET 2,C` (rule R320). -/
def execSet2C (s : State) : Result := .next (opSet 2 (.reg .c) s)

/-- `SET 2,D` (rule R320). -/
def execSet2D (s : State) : Result := .next (opSet 2 (.reg .d) s)

/-- `SET 2,E` (rule R320). -/
def execSet2E (s : State) : Result := .next (opSet 2 (.reg .e) s)

/-- `SET 2,H` (rule R320). -/
def execSet2H (s : State) : Result := .next (opSet 2 (.reg .h) s)

/-- `SET 2,L` (rule R320). -/
def execSet2L (s : State) : Result := .next (opSet 2 (.reg .l) s)

/-- `SET 2,(HL)` (rule R320). -/
def execSet2MemHl (s : State) : Result := .next (opSet 2 .mem s)

/-- `SET 2,A` (rule R320). -/
def execSet2A (s : State) : Result := .next (opSet 2 (.reg .a) s)

/-- `SET 3,B` (rule R320). -/
def execSet3B (s : State) : Result := .next (opSet 3 (.reg .b) s)

/-- `SET 3,C` (rule R320). -/
def execSet3C (s : State) : Result := .next (opSet 3 (.reg .c) s)

/-- `SET 3,D` (rule R320). -/
def execSet3D (s : State) : Result := .next (opSet 3 (.reg .d) s)

/-- `SET 3,E` (rule R320). -/
def execSet3E (s : State) : Result := .next (opSet 3 (.reg .e) s)

/-- `SET 3,H` (rule R320). -/
def execSet3H (s : State) : Result := .next (opSet 3 (.reg .h) s)

/-- `SET 3,L` (rule R320). -/
def execSet3L (s : State) : Result := .next (opSet 3 (.reg .l) s)

/-- `SET 3,(HL)` (rule R320). -/
def execSet3MemHl (s : State) : Result := .next (opSet 3 .mem s)

/-- `SET 3,A` (rule R320). -/
def execSet3A (s : State) : Result := .next (opSet 3 (.reg .a) s)

/-- `SET 4,B` (rule R320). -/
def execSet4B (s : State) : Result := .next (opSet 4 (.reg .b) s)

/-- `SET 4,C` (rule R320). -/
def execSet4C (s : State) : Result := .next (opSet 4 (.reg .c) s)

/-- `SET 4,D` (rule R320). -/
def execSet4D (s : State) : Result := .next (opSet 4 (.reg .d) s)

/-- `SET 4,E` (rule R320). -/
def execSet4E (s : State) : Result := .next (opSet 4 (.reg .e) s)

/-- `SET 4,H` (rule R320). -/
def execSet4H (s : State) : Result := .next (opSet 4 (.reg .h) s)

/-- `SET 4,L` (rule R320). -/
def execSet4L (s : State) : Result := .next (opSet 4 (.reg .l) s)

/-- `SET 4,(HL)` (rule R320). -/
def execSet4MemHl (s : State) : Result := .next (opSet 4 .mem s)

/-- `SET 4,A` (rule R320). -/
def execSet4A (s : State) : Result := .next (opSet 4 (.reg .a) s)

/-- `SET 5,B` (rule R320). -/
def execSet5B (s : State) : Result := .next (opSet 5 (.reg .b) s)

/-- `SET 5,C` (rule R320). -/
def execSet5C (s : State) : Result := .next (opSet 5 (.reg .c) s)

/-- `SET 5,D` (rule R320). -/
def execSet5D (s : State) : Result := .next (opSet 5 (.reg .d) s)

/-- `SET 5,E` (rule R320). -/
def execSet5E (s : State) : Result := .next (opSet 5 (.reg .e) s)

/-- `SET 5,H` (rule R320). -/
def execSet5H (s : State) : Result := .next (opSet 5 (.reg .h) s)

/-- `SET 5,L` (rule R320). -/
def execSet5L (s : State) : Result := .next (opSet 5 (.reg .l) s)

/-- `SET 5,(HL)` (rule R320). -/
def execSet5MemHl (s : State) : Result := .next (opSet 5 .mem s)

/-- `SET 5,A` (rule R320). -/
def execSet5A (s : State) : Result := .next (opSet 5 (.reg .a) s)

/-- `SET 6,B` (rule R320). -/
def execSet6B (s : State) : Result := .next (opSet 6 (.reg .b) s)

/-- `SET 6,C` (rule R320). -/
def execSet6C (s : State) : Result := .next (opSet 6 (.reg .c) s)

/-- `SET 6,D` (rule R320). -/
def execSet6D (s : State) : Result := .next (opSet 6 (.reg .d) s)

/-- `SET 6,E` (rule R320). -/
def execSet6E (s : State) : Result := .next (opSet 6 (.reg .e) s)

/-- `SET 6,H` (rule R320). -/
def execSet6H (s : State) : Result := .next (opSet 6 (.reg .h) s)

/-- `SET 6,L` (rule R320). -/
def execSet6L (s : State) : Result := .next (opSet 6 (.reg .l) s)

/-- `SET 6,(HL)` (rule R320). -/
def execSet6MemHl (s : State) : Result := .next (opSet 6 .mem s)

/-- `SET 6,A` (rule R320). -/
def execSet6A (s : State) : Result := .next (opSet 6 (.reg .a) s)

/-- `SET 7,B` (rule R320). -/
def execSet7B (s : State) : Result := .next (opSet 7 (.reg .b) s)

/-- `SET 7,C` (rule R320). -/
def execSet7C (s : State) : Result := .next (opSet 7 (.reg .c) s)

/-- `SET 7,D` (rule R320). -/
def execSet7D (s : State) : Result := .next (opSet 7 (.reg .d) s)

/-- `SET 7,E` (rule R320). -/
def execSet7E (s : State) : Result := .next (opSet 7 (.reg .e) s)

/-- `SET 7,H` (rule R320). -/
def execSet7H (s : State) : Result := .next (opSet 7 (.reg .h) s)

/-- `SET 7,L` (rule R320). -/
def execSet7L (s : State) : Result := .next (opSet 7 (.reg .l) s)

/-- `SET 7,(HL)` (rule R320). -/
def execSet7MemHl (s : State) : Result := .next (opSet 7 .mem s)

/-- `SET 7,A` (rule R320). -/
def execSet7A (s : State) : Result := .next (opSet 7 (.reg .a) s)

end Sys2Proof.Machine
end

