-- ==== Sys2Proof/Machine/System.lean ====
section
/-! DEFINITION. System instructions and undefined opcodes (spec/46_system.md). An opcode that raises Fatal answers the state
with the latch set (rule R421; log entry 13); no cost is left to advance. -/

namespace Sys2Proof.Machine

/-! ## Shared operations -/

/-- `NOP` (rule R370). -/
def opNop (s : State) : State := s.cost 1

/-- `HALT` (rule R372). -/
def opHalt (s : State) : State := { s with cpu := { s.cpu with halted := true } }.cost 1

/-- `STOP`: "x[PC] <- address of the opcode; raise Fatal(StopUnmodelled(pc))"; one byte was fetched (rule R373). -/
def opStop (s : State) : State := s.raiseFatal (s.cpu.pc - 1) (.stopUnmodelled (s.cpu.pc - 1))

/-- `DI` (rule R374). -/
def opDi (s : State) : State := { s with cpu := { s.cpu with ime := false, imePending := false } }.cost 1

/-- `EI`: sets the latch only (rule R375). -/
def opEi (s : State) : State := { s with cpu := { s.cpu with imePending := true } }.cost 1

/-- An undefined opcode: "x[PC] <- address of the opcode; raise Fatal(IllegalOpcode(op, pc))" (rule R377). -/
def opIllegal (op : Byte) (s : State) : State := s.raiseFatal (s.cpu.pc - 1) (.illegalOpcode op (s.cpu.pc - 1))

/-! ## One meaning per instruction -/

/-- `NOP` (rule R370). -/
def execNop (s : State) : Result := .next (opNop s)

/-- `STOP` (rule R373). -/
def execStop (s : State) : Result := .next (opStop s)

/-- `HALT` (rule R372). -/
def execHalt (s : State) : Result := .next (opHalt s)

/-- `ILLEGAL_D3` (rule R377). -/
def execIllegalD3 (s : State) : Result := .next (opIllegal 0xD3 s)

/-- `ILLEGAL_DB` (rule R377). -/
def execIllegalDB (s : State) : Result := .next (opIllegal 0xDB s)

/-- `ILLEGAL_DD` (rule R377). -/
def execIllegalDD (s : State) : Result := .next (opIllegal 0xDD s)

/-- `ILLEGAL_E3` (rule R377). -/
def execIllegalE3 (s : State) : Result := .next (opIllegal 0xE3 s)

/-- `ILLEGAL_E4` (rule R377). -/
def execIllegalE4 (s : State) : Result := .next (opIllegal 0xE4 s)

/-- `ILLEGAL_EB` (rule R377). -/
def execIllegalEB (s : State) : Result := .next (opIllegal 0xEB s)

/-- `ILLEGAL_EC` (rule R377). -/
def execIllegalEC (s : State) : Result := .next (opIllegal 0xEC s)

/-- `ILLEGAL_ED` (rule R377). -/
def execIllegalED (s : State) : Result := .next (opIllegal 0xED s)

/-- `DI` (rule R374). -/
def execDi (s : State) : Result := .next (opDi s)

/-- `ILLEGAL_F4` (rule R377). -/
def execIllegalF4 (s : State) : Result := .next (opIllegal 0xF4 s)

/-- `EI` (rule R375). -/
def execEi (s : State) : Result := .next (opEi s)

/-- `ILLEGAL_FC` (rule R377). -/
def execIllegalFC (s : State) : Result := .next (opIllegal 0xFC s)

/-- `ILLEGAL_FD` (rule R377). -/
def execIllegalFD (s : State) : Result := .next (opIllegal 0xFD s)

end Sys2Proof.Machine
end

