-- ==== Sys2Proof/WellFormed.lean ====
section
/-! DEFINITION. Which terms of `Instr` are instructions of the machine.

Operand bounds need no check: an immediate is a bit vector of its encoded width (rule R138), and register, pair,
condition and bit-number operands are part of the constructor. What is left to check is rule R142: eleven rows of the
opcode table stand for base opcodes that "have no instruction". -/

namespace Sys2Proof

/-- The eleven undefined opcodes of rule R142 are rows of the table but no instructions. -/
def Instr.wellFormed : Instr → Bool
  | .illegalD3 => false
  | .illegalDB => false
  | .illegalDD => false
  | .illegalE3 => false
  | .illegalE4 => false
  | .illegalEB => false
  | .illegalEC => false
  | .illegalED => false
  | .illegalF4 => false
  | .illegalFC => false
  | .illegalFD => false
  | _ => true

/-- A well-formed instruction: one the spec gives an encoding and a rule of its own. -/
abbrev Instr.WellFormed (i : Instr) : Prop := i.wellFormed = true

end Sys2Proof
end

