-- ==== Sys2Proof/Decode.lean ====
section
/-! DEFINITION. Decoder and encoder (spec/30_encoding.md).

The decoder is a table lookup, as rule R149 says: the grid of rule R140 for the first byte and the extended map of
rule R141 for the byte after 0xCB. The encoder is written from the FIELD presentation of the same maps (the bit
patterns x, y, z, p, q of rules R131 to R141) over the shape of an instruction, so that the round trip compares the
spec's two presentations. -/

namespace Sys2Proof

/-! ## The shape of each row -/

/-- The operation and operands of each row of the opcode table (its keys kind, mode, r1, r2, cond, bit, param). -/
def Instr.shape : Instr → Shape
  | .nop => .nop
  | .ldBcD16 v => .ldPairImm .bc v
  | .ldMemBcA => .ldIndA .bc
  | .incBc => .incPair .bc
  | .incB => .incReg .b
  | .decB => .decReg .b
  | .ldBD8 n => .ldRegImm .b n
  | .rlca => .rotA .rlc
  | .ldMemA16Sp v => .ldAbsSp v
  | .addHlBc => .addHl .bc
  | .ldAMemBc => .ldAInd .bc
  | .decBc => .decPair .bc
  | .incC => .incReg .c
  | .decC => .decReg .c
  | .ldCD8 n => .ldRegImm .c n
  | .rrca => .rotA .rrc
  | .stop => .stop
  | .ldDeD16 v => .ldPairImm .de v
  | .ldMemDeA => .ldIndA .de
  | .incDe => .incPair .de
  | .incD => .incReg .d
  | .decD => .decReg .d
  | .ldDD8 n => .ldRegImm .d n
  | .rla => .rotA .rl
  | .jrE8 n => .jr n
  | .addHlDe => .addHl .de
  | .ldAMemDe => .ldAInd .de
  | .decDe => .decPair .de
  | .incE => .incReg .e
  | .decE => .decReg .e
  | .ldED8 n => .ldRegImm .e n
  | .rra => .rotA .rr
  | .jrNzE8 n => .jrCond .nz n
  | .ldHlD16 v => .ldPairImm .hl v
  | .ldMemHlIncA => .ldHlStepA .inc
  | .incHl => .incPair .hl
  | .incH => .incReg .h
  | .decH => .decReg .h
  | .ldHD8 n => .ldRegImm .h n
  | .daa => .daa
  | .jrZE8 n => .jrCond .z n
  | .addHlHl => .addHl .hl
  | .ldAMemHlInc => .ldAHlStep .inc
  | .decHl => .decPair .hl
  | .incL => .incReg .l
  | .decL => .decReg .l
  | .ldLD8 n => .ldRegImm .l n
  | .cpl => .cpl
  | .jrNcE8 n => .jrCond .nc n
  | .ldSpD16 v => .ldPairImm .sp v
  | .ldMemHlDecA => .ldHlStepA .dec
  | .incSp => .incPair .sp
  | .incMemHl => .incMem
  | .decMemHl => .decMem
  | .ldMemHlD8 n => .ldHlImm n
  | .scf => .scf
  | .jrCE8 n => .jrCond .c n
  | .addHlSp => .addHl .sp
  | .ldAMemHlDec => .ldAHlStep .dec
  | .decSp => .decPair .sp
  | .incA => .incReg .a
  | .decA => .decReg .a
  | .ldAD8 n => .ldRegImm .a n
  | .ccf => .ccf
  | .ldBB => .ldRegReg .b .b
  | .ldBC => .ldRegReg .b .c
  | .ldBD => .ldRegReg .b .d
  | .ldBE => .ldRegReg .b .e
  | .ldBH => .ldRegReg .b .h
  | .ldBL => .ldRegReg .b .l
  | .ldBMemHl => .ldRegHl .b
  | .ldBA => .ldRegReg .b .a
  | .ldCB => .ldRegReg .c .b
  | .ldCC => .ldRegReg .c .c
  | .ldCD => .ldRegReg .c .d
  | .ldCE => .ldRegReg .c .e
  | .ldCH => .ldRegReg .c .h
  | .ldCL => .ldRegReg .c .l
  | .ldCMemHl => .ldRegHl .c
  | .ldCA => .ldRegReg .c .a
  | .ldDB => .ldRegReg .d .b
  | .ldDC => .ldRegReg .d .c
  | .ldDD => .ldRegReg .d .d
  | .ldDE => .ldRegReg .d .e
  | .ldDH => .ldRegReg .d .h
  | .ldDL => .ldRegReg .d .l
  | .ldDMemHl => .ldRegHl .d
  | .ldDA => .ldRegReg .d .a
  | .ldEB => .ldRegReg .e .b
  | .ldEC => .ldRegReg .e .c
  | .ldED => .ldRegReg .e .d
  | .ldEE => .ldRegReg .e .e
  | .ldEH => .ldRegReg .e .h
  | .ldEL => .ldRegReg .e .l
  | .ldEMemHl => .ldRegHl .e
  | .ldEA => .ldRegReg .e .a
  | .ldHB => .ldRegReg .h .b
  | .ldHC => .ldRegReg .h .c
  | .ldHD => .ldRegReg .h .d
  | .ldHE => .ldRegReg .h .e
  | .ldHH => .ldRegReg .h .h
  | .ldHL => .ldRegReg .h .l
  | .ldHMemHl => .ldRegHl .h
  | .ldHA => .ldRegReg .h .a
  | .ldLB => .ldRegReg .l .b
  | .ldLC => .ldRegReg .l .c
  | .ldLD => .ldRegReg .l .d
  | .ldLE => .ldRegReg .l .e
  | .ldLH => .ldRegReg .l .h
  | .ldLL => .ldRegReg .l .l
  | .ldLMemHl => .ldRegHl .l
  | .ldLA => .ldRegReg .l .a
  | .ldMemHlB => .ldHlReg .b
  | .ldMemHlC => .ldHlReg .c
  | .ldMemHlD => .ldHlReg .d
  | .ldMemHlE => .ldHlReg .e
  | .ldMemHlH => .ldHlReg .h
  | .ldMemHlL => .ldHlReg .l
  | .halt => .halt
  | .ldMemHlA => .ldHlReg .a
  | .ldAB => .ldRegReg .a .b
  | .ldAC => .ldRegReg .a .c
  | .ldAD => .ldRegReg .a .d
  | .ldAE => .ldRegReg .a .e
  | .ldAH => .ldRegReg .a .h
  | .ldAL => .ldRegReg .a .l
  | .ldAMemHl => .ldRegHl .a
  | .ldAA => .ldRegReg .a .a
  | .addAB => .alu .add (.reg .b)
  | .addAC => .alu .add (.reg .c)
  | .addAD => .alu .add (.reg .d)
  | .addAE => .alu .add (.reg .e)
  | .addAH => .alu .add (.reg .h)
  | .addAL => .alu .add (.reg .l)
  | .addAMemHl => .alu .add .mem
  | .addAA => .alu .add (.reg .a)
  | .adcAB => .alu .adc (.reg .b)
  | .adcAC => .alu .adc (.reg .c)
  | .adcAD => .alu .adc (.reg .d)
  | .adcAE => .alu .adc (.reg .e)
  | .adcAH => .alu .adc (.reg .h)
  | .adcAL => .alu .adc (.reg .l)
  | .adcAMemHl => .alu .adc .mem
  | .adcAA => .alu .adc (.reg .a)
  | .subAB => .alu .sub (.reg .b)
  | .subAC => .alu .sub (.reg .c)
  | .subAD => .alu .sub (.reg .d)
  | .subAE => .alu .sub (.reg .e)
  | .subAH => .alu .sub (.reg .h)
  | .subAL => .alu .sub (.reg .l)
  | .subAMemHl => .alu .sub .mem
  | .subAA => .alu .sub (.reg .a)
  | .sbcAB => .alu .sbc (.reg .b)
  | .sbcAC => .alu .sbc (.reg .c)
  | .sbcAD => .alu .sbc (.reg .d)
  | .sbcAE => .alu .sbc (.reg .e)
  | .sbcAH => .alu .sbc (.reg .h)
  | .sbcAL => .alu .sbc (.reg .l)
  | .sbcAMemHl => .alu .sbc .mem
  | .sbcAA => .alu .sbc (.reg .a)
  | .andAB => .alu .and (.reg .b)
  | .andAC => .alu .and (.reg .c)
  | .andAD => .alu .and (.reg .d)
  | .andAE => .alu .and (.reg .e)
  | .andAH => .alu .and (.reg .h)
  | .andAL => .alu .and (.reg .l)
  | .andAMemHl => .alu .and .mem
  | .andAA => .alu .and (.reg .a)
  | .xorAB => .alu .xor (.reg .b)
  | .xorAC => .alu .xor (.reg .c)
  | .xorAD => .alu .xor (.reg .d)
  | .xorAE => .alu .xor (.reg .e)
  | .xorAH => .alu .xor (.reg .h)
  | .xorAL => .alu .xor (.reg .l)
  | .xorAMemHl => .alu .xor .mem
  | .xorAA => .alu .xor (.reg .a)
  | .orAB => .alu .or (.reg .b)
  | .orAC => .alu .or (.reg .c)
  | .orAD => .alu .or (.reg .d)
  | .orAE => .alu .or (.reg .e)
  | .orAH => .alu .or (.reg .h)
  | .orAL => .alu .or (.reg .l)
  | .orAMemHl => .alu .or .mem
  | .orAA => .alu .or (.reg .a)
  | .cpAB => .alu .cp (.reg .b)
  | .cpAC => .alu .cp (.reg .c)
  | .cpAD => .alu .cp (.reg .d)
  | .cpAE => .alu .cp (.reg .e)
  | .cpAH => .alu .cp (.reg .h)
  | .cpAL => .alu .cp (.reg .l)
  | .cpAMemHl => .alu .cp .mem
  | .cpAA => .alu .cp (.reg .a)
  | .retNz => .retCond .nz
  | .popBc => .pop .bc
  | .jpNzA16 v => .jpCond .nz v
  | .jpA16 v => .jp v
  | .callNzA16 v => .callCond .nz v
  | .pushBc => .push .bc
  | .addAD8 n => .alu .add (.imm n)
  | .rst00 => .rst 0
  | .retZ => .retCond .z
  | .ret => .ret
  | .jpZA16 v => .jpCond .z v
  | .callZA16 v => .callCond .z v
  | .callA16 v => .call v
  | .adcAD8 n => .alu .adc (.imm n)
  | .rst08 => .rst 1
  | .retNc => .retCond .nc
  | .popDe => .pop .de
  | .jpNcA16 v => .jpCond .nc v
  | .illegalD3 => .illegal 0xD3
  | .callNcA16 v => .callCond .nc v
  | .pushDe => .push .de
  | .subAD8 n => .alu .sub (.imm n)
  | .rst10 => .rst 2
  | .retC => .retCond .c
  | .reti => .reti
  | .jpCA16 v => .jpCond .c v
  | .illegalDB => .illegal 0xDB
  | .callCA16 v => .callCond .c v
  | .illegalDD => .illegal 0xDD
  | .sbcAD8 n => .alu .sbc (.imm n)
  | .rst18 => .rst 3
  | .ldhMemA8A n => .ldhStoreA n
  | .popHl => .pop .hl
  | .ldMemCA => .ldHighCA
  | .illegalE3 => .illegal 0xE3
  | .illegalE4 => .illegal 0xE4
  | .pushHl => .push .hl
  | .andAD8 n => .alu .and (.imm n)
  | .rst20 => .rst 4
  | .addSpE8 n => .addSp n
  | .jpHl => .jpHl
  | .ldMemA16A v => .ldAbsA v
  | .illegalEB => .illegal 0xEB
  | .illegalEC => .illegal 0xEC
  | .illegalED => .illegal 0xED
  | .xorAD8 n => .alu .xor (.imm n)
  | .rst28 => .rst 5
  | .ldhAMemA8 n => .ldhA n
  | .popAf => .pop .af
  | .ldAMemC => .ldAHighC
  | .di => .di
  | .illegalF4 => .illegal 0xF4
  | .pushAf => .push .af
  | .orAD8 n => .alu .or (.imm n)
  | .rst30 => .rst 6
  | .ldHlSpE8 n => .ldHlSpE8 n
  | .ldSpHl => .ldSpHl
  | .ldAMemA16 v => .ldAAbs v
  | .ei => .ei
  | .illegalFC => .illegal 0xFC
  | .illegalFD => .illegal 0xFD
  | .cpAD8 n => .alu .cp (.imm n)
  | .rst38 => .rst 7
  | .rlcB => .rot .rlc (.reg .b)
  | .rlcC => .rot .rlc (.reg .c)
  | .rlcD => .rot .rlc (.reg .d)
  | .rlcE => .rot .rlc (.reg .e)
  | .rlcH => .rot .rlc (.reg .h)
  | .rlcL => .rot .rlc (.reg .l)
  | .rlcMemHl => .rot .rlc .mem
  | .rlcA => .rot .rlc (.reg .a)
  | .rrcB => .rot .rrc (.reg .b)
  | .rrcC => .rot .rrc (.reg .c)
  | .rrcD => .rot .rrc (.reg .d)
  | .rrcE => .rot .rrc (.reg .e)
  | .rrcH => .rot .rrc (.reg .h)
  | .rrcL => .rot .rrc (.reg .l)
  | .rrcMemHl => .rot .rrc .mem
  | .rrcA => .rot .rrc (.reg .a)
  | .rlB => .rot .rl (.reg .b)
  | .rlC => .rot .rl (.reg .c)
  | .rlD => .rot .rl (.reg .d)
  | .rlE => .rot .rl (.reg .e)
  | .rlH => .rot .rl (.reg .h)
  | .rlL => .rot .rl (.reg .l)
  | .rlMemHl => .rot .rl .mem
  | .rlA => .rot .rl (.reg .a)
  | .rrB => .rot .rr (.reg .b)
  | .rrC => .rot .rr (.reg .c)
  | .rrD => .rot .rr (.reg .d)
  | .rrE => .rot .rr (.reg .e)
  | .rrH => .rot .rr (.reg .h)
  | .rrL => .rot .rr (.reg .l)
  | .rrMemHl => .rot .rr .mem
  | .rrA => .rot .rr (.reg .a)
  | .slaB => .rot .sla (.reg .b)
  | .slaC => .rot .sla (.reg .c)
  | .slaD => .rot .sla (.reg .d)
  | .slaE => .rot .sla (.reg .e)
  | .slaH => .rot .sla (.reg .h)
  | .slaL => .rot .sla (.reg .l)
  | .slaMemHl => .rot .sla .mem
  | .slaA => .rot .sla (.reg .a)
  | .sraB => .rot .sra (.reg .b)
  | .sraC => .rot .sra (.reg .c)
  | .sraD => .rot .sra (.reg .d)
  | .sraE => .rot .sra (.reg .e)
  | .sraH => .rot .sra (.reg .h)
  | .sraL => .rot .sra (.reg .l)
  | .sraMemHl => .rot .sra .mem
  | .sraA => .rot .sra (.reg .a)
  | .swapB => .rot .swap (.reg .b)
  | .swapC => .rot .swap (.reg .c)
  | .swapD => .rot .swap (.reg .d)
  | .swapE => .rot .swap (.reg .e)
  | .swapH => .rot .swap (.reg .h)
  | .swapL => .rot .swap (.reg .l)
  | .swapMemHl => .rot .swap .mem
  | .swapA => .rot .swap (.reg .a)
  | .srlB => .rot .srl (.reg .b)
  | .srlC => .rot .srl (.reg .c)
  | .srlD => .rot .srl (.reg .d)
  | .srlE => .rot .srl (.reg .e)
  | .srlH => .rot .srl (.reg .h)
  | .srlL => .rot .srl (.reg .l)
  | .srlMemHl => .rot .srl .mem
  | .srlA => .rot .srl (.reg .a)
  | .bit0B => .bit 0 (.reg .b)
  | .bit0C => .bit 0 (.reg .c)
  | .bit0D => .bit 0 (.reg .d)
  | .bit0E => .bit 0 (.reg .e)
  | .bit0H => .bit 0 (.reg .h)
  | .bit0L => .bit 0 (.reg .l)
  | .bit0MemHl => .bit 0 .mem
  | .bit0A => .bit 0 (.reg .a)
  | .bit1B => .bit 1 (.reg .b)
  | .bit1C => .bit 1 (.reg .c)
  | .bit1D => .bit 1 (.reg .d)
  | .bit1E => .bit 1 (.reg .e)
  | .bit1H => .bit 1 (.reg .h)
  | .bit1L => .bit 1 (.reg .l)
  | .bit1MemHl => .bit 1 .mem
  | .bit1A => .bit 1 (.reg .a)
  | .bit2B => .bit 2 (.reg .b)
  | .bit2C => .bit 2 (.reg .c)
  | .bit2D => .bit 2 (.reg .d)
  | .bit2E => .bit 2 (.reg .e)
  | .bit2H => .bit 2 (.reg .h)
  | .bit2L => .bit 2 (.reg .l)
  | .bit2MemHl => .bit 2 .mem
  | .bit2A => .bit 2 (.reg .a)
  | .bit3B => .bit 3 (.reg .b)
  | .bit3C => .bit 3 (.reg .c)
  | .bit3D => .bit 3 (.reg .d)
  | .bit3E => .bit 3 (.reg .e)
  | .bit3H => .bit 3 (.reg .h)
  | .bit3L => .bit 3 (.reg .l)
  | .bit3MemHl => .bit 3 .mem
  | .bit3A => .bit 3 (.reg .a)
  | .bit4B => .bit 4 (.reg .b)
  | .bit4C => .bit 4 (.reg .c)
  | .bit4D => .bit 4 (.reg .d)
  | .bit4E => .bit 4 (.reg .e)
  | .bit4H => .bit 4 (.reg .h)
  | .bit4L => .bit 4 (.reg .l)
  | .bit4MemHl => .bit 4 .mem
  | .bit4A => .bit 4 (.reg .a)
  | .bit5B => .bit 5 (.reg .b)
  | .bit5C => .bit 5 (.reg .c)
  | .bit5D => .bit 5 (.reg .d)
  | .bit5E => .bit 5 (.reg .e)
  | .bit5H => .bit 5 (.reg .h)
  | .bit5L => .bit 5 (.reg .l)
  | .bit5MemHl => .bit 5 .mem
  | .bit5A => .bit 5 (.reg .a)
  | .bit6B => .bit 6 (.reg .b)
  | .bit6C => .bit 6 (.reg .c)
  | .bit6D => .bit 6 (.reg .d)
  | .bit6E => .bit 6 (.reg .e)
  | .bit6H => .bit 6 (.reg .h)
  | .bit6L => .bit 6 (.reg .l)
  | .bit6MemHl => .bit 6 .mem
  | .bit6A => .bit 6 (.reg .a)
  | .bit7B => .bit 7 (.reg .b)
  | .bit7C => .bit 7 (.reg .c)
  | .bit7D => .bit 7 (.reg .d)
  | .bit7E => .bit 7 (.reg .e)
  | .bit7H => .bit 7 (.reg .h)
  | .bit7L => .bit 7 (.reg .l)
  | .bit7MemHl => .bit 7 .mem
  | .bit7A => .bit 7 (.reg .a)
  | .res0B => .res 0 (.reg .b)
  | .res0C => .res 0 (.reg .c)
  | .res0D => .res 0 (.reg .d)
  | .res0E => .res 0 (.reg .e)
  | .res0H => .res 0 (.reg .h)
  | .res0L => .res 0 (.reg .l)
  | .res0MemHl => .res 0 .mem
  | .res0A => .res 0 (.reg .a)
  | .res1B => .res 1 (.reg .b)
  | .res1C => .res 1 (.reg .c)
  | .res1D => .res 1 (.reg .d)
  | .res1E => .res 1 (.reg .e)
  | .res1H => .res 1 (.reg .h)
  | .res1L => .res 1 (.reg .l)
  | .res1MemHl => .res 1 .mem
  | .res1A => .res 1 (.reg .a)
  | .res2B => .res 2 (.reg .b)
  | .res2C => .res 2 (.reg .c)
  | .res2D => .res 2 (.reg .d)
  | .res2E => .res 2 (.reg .e)
  | .res2H => .res 2 (.reg .h)
  | .res2L => .res 2 (.reg .l)
  | .res2MemHl => .res 2 .mem
  | .res2A => .res 2 (.reg .a)
  | .res3B => .res 3 (.reg .b)
  | .res3C => .res 3 (.reg .c)
  | .res3D => .res 3 (.reg .d)
  | .res3E => .res 3 (.reg .e)
  | .res3H => .res 3 (.reg .h)
  | .res3L => .res 3 (.reg .l)
  | .res3MemHl => .res 3 .mem
  | .res3A => .res 3 (.reg .a)
  | .res4B => .res 4 (.reg .b)
  | .res4C => .res 4 (.reg .c)
  | .res4D => .res 4 (.reg .d)
  | .res4E => .res 4 (.reg .e)
  | .res4H => .res 4 (.reg .h)
  | .res4L => .res 4 (.reg .l)
  | .res4MemHl => .res 4 .mem
  | .res4A => .res 4 (.reg .a)
  | .res5B => .res 5 (.reg .b)
  | .res5C => .res 5 (.reg .c)
  | .res5D => .res 5 (.reg .d)
  | .res5E => .res 5 (.reg .e)
  | .res5H => .res 5 (.reg .h)
  | .res5L => .res 5 (.reg .l)
  | .res5MemHl => .res 5 .mem
  | .res5A => .res 5 (.reg .a)
  | .res6B => .res 6 (.reg .b)
  | .res6C => .res 6 (.reg .c)
  | .res6D => .res 6 (.reg .d)
  | .res6E => .res 6 (.reg .e)
  | .res6H => .res 6 (.reg .h)
  | .res6L => .res 6 (.reg .l)
  | .res6MemHl => .res 6 .mem
  | .res6A => .res 6 (.reg .a)
  | .res7B => .res 7 (.reg .b)
  | .res7C => .res 7 (.reg .c)
  | .res7D => .res 7 (.reg .d)
  | .res7E => .res 7 (.reg .e)
  | .res7H => .res 7 (.reg .h)
  | .res7L => .res 7 (.reg .l)
  | .res7MemHl => .res 7 .mem
  | .res7A => .res 7 (.reg .a)
  | .set0B => .setBit 0 (.reg .b)
  | .set0C => .setBit 0 (.reg .c)
  | .set0D => .setBit 0 (.reg .d)
  | .set0E => .setBit 0 (.reg .e)
  | .set0H => .setBit 0 (.reg .h)
  | .set0L => .setBit 0 (.reg .l)
  | .set0MemHl => .setBit 0 .mem
  | .set0A => .setBit 0 (.reg .a)
  | .set1B => .setBit 1 (.reg .b)
  | .set1C => .setBit 1 (.reg .c)
  | .set1D => .setBit 1 (.reg .d)
  | .set1E => .setBit 1 (.reg .e)
  | .set1H => .setBit 1 (.reg .h)
  | .set1L => .setBit 1 (.reg .l)
  | .set1MemHl => .setBit 1 .mem
  | .set1A => .setBit 1 (.reg .a)
  | .set2B => .setBit 2 (.reg .b)
  | .set2C => .setBit 2 (.reg .c)
  | .set2D => .setBit 2 (.reg .d)
  | .set2E => .setBit 2 (.reg .e)
  | .set2H => .setBit 2 (.reg .h)
  | .set2L => .setBit 2 (.reg .l)
  | .set2MemHl => .setBit 2 .mem
  | .set2A => .setBit 2 (.reg .a)
  | .set3B => .setBit 3 (.reg .b)
  | .set3C => .setBit 3 (.reg .c)
  | .set3D => .setBit 3 (.reg .d)
  | .set3E => .setBit 3 (.reg .e)
  | .set3H => .setBit 3 (.reg .h)
  | .set3L => .setBit 3 (.reg .l)
  | .set3MemHl => .setBit 3 .mem
  | .set3A => .setBit 3 (.reg .a)
  | .set4B => .setBit 4 (.reg .b)
  | .set4C => .setBit 4 (.reg .c)
  | .set4D => .setBit 4 (.reg .d)
  | .set4E => .setBit 4 (.reg .e)
  | .set4H => .setBit 4 (.reg .h)
  | .set4L => .setBit 4 (.reg .l)
  | .set4MemHl => .setBit 4 .mem
  | .set4A => .setBit 4 (.reg .a)
  | .set5B => .setBit 5 (.reg .b)
  | .set5C => .setBit 5 (.reg .c)
  | .set5D => .setBit 5 (.reg .d)
  | .set5E => .setBit 5 (.reg .e)
  | .set5H => .setBit 5 (.reg .h)
  | .set5L => .setBit 5 (.reg .l)
  | .set5MemHl => .setBit 5 .mem
  | .set5A => .setBit 5 (.reg .a)
  | .set6B => .setBit 6 (.reg .b)
  | .set6C => .setBit 6 (.reg .c)
  | .set6D => .setBit 6 (.reg .d)
  | .set6E => .setBit 6 (.reg .e)
  | .set6H => .setBit 6 (.reg .h)
  | .set6L => .setBit 6 (.reg .l)
  | .set6MemHl => .setBit 6 .mem
  | .set6A => .setBit 6 (.reg .a)
  | .set7B => .setBit 7 (.reg .b)
  | .set7C => .setBit 7 (.reg .c)
  | .set7D => .setBit 7 (.reg .d)
  | .set7E => .setBit 7 (.reg .e)
  | .set7H => .setBit 7 (.reg .h)
  | .set7L => .setBit 7 (.reg .l)
  | .set7MemHl => .setBit 7 .mem
  | .set7A => .setBit 7 (.reg .a)

/-! ## Opcode maps (rules R140 and R141)

One list per row of the grid (high nibble), sixteen entries each (low nibble). A base entry takes the two forms of the
bytes that may follow the opcode: `n`, the second byte, and `v`, the 16-bit value with the second byte low. -/

/-- Second bytes 0x00 to 0x0F after the prefix 0xCB (rule R141). -/
def cbRow0 : List Instr :=
  [.rlcB, .rlcC, .rlcD, .rlcE, .rlcH, .rlcL, .rlcMemHl, .rlcA,
   .rrcB, .rrcC, .rrcD, .rrcE, .rrcH, .rrcL, .rrcMemHl, .rrcA]

/-- Second bytes 0x10 to 0x1F after the prefix 0xCB (rule R141). -/
def cbRow1 : List Instr :=
  [.rlB, .rlC, .rlD, .rlE, .rlH, .rlL, .rlMemHl, .rlA,
   .rrB, .rrC, .rrD, .rrE, .rrH, .rrL, .rrMemHl, .rrA]

/-- Second bytes 0x20 to 0x2F after the prefix 0xCB (rule R141). -/
def cbRow2 : List Instr :=
  [.slaB, .slaC, .slaD, .slaE, .slaH, .slaL, .slaMemHl, .slaA,
   .sraB, .sraC, .sraD, .sraE, .sraH, .sraL, .sraMemHl, .sraA]

/-- Second bytes 0x30 to 0x3F after the prefix 0xCB (rule R141). -/
def cbRow3 : List Instr :=
  [.swapB, .swapC, .swapD, .swapE, .swapH, .swapL, .swapMemHl, .swapA,
   .srlB, .srlC, .srlD, .srlE, .srlH, .srlL, .srlMemHl, .srlA]

/-- Second bytes 0x40 to 0x4F after the prefix 0xCB (rule R141). -/
def cbRow4 : List Instr :=
  [.bit0B, .bit0C, .bit0D, .bit0E, .bit0H, .bit0L, .bit0MemHl, .bit0A,
   .bit1B, .bit1C, .bit1D, .bit1E, .bit1H, .bit1L, .bit1MemHl, .bit1A]

/-- Second bytes 0x50 to 0x5F after the prefix 0xCB (rule R141). -/
def cbRow5 : List Instr :=
  [.bit2B, .bit2C, .bit2D, .bit2E, .bit2H, .bit2L, .bit2MemHl, .bit2A,
   .bit3B, .bit3C, .bit3D, .bit3E, .bit3H, .bit3L, .bit3MemHl, .bit3A]

/-- Second bytes 0x60 to 0x6F after the prefix 0xCB (rule R141). -/
def cbRow6 : List Instr :=
  [.bit4B, .bit4C, .bit4D, .bit4E, .bit4H, .bit4L, .bit4MemHl, .bit4A,
   .bit5B, .bit5C, .bit5D, .bit5E, .bit5H, .bit5L, .bit5MemHl, .bit5A]

/-- Second bytes 0x70 to 0x7F after the prefix 0xCB (rule R141). -/
def cbRow7 : List Instr :=
  [.bit6B, .bit6C, .bit6D, .bit6E, .bit6H, .bit6L, .bit6MemHl, .bit6A,
   .bit7B, .bit7C, .bit7D, .bit7E, .bit7H, .bit7L, .bit7MemHl, .bit7A]

/-- Second bytes 0x80 to 0x8F after the prefix 0xCB (rule R141). -/
def cbRow8 : List Instr :=
  [.res0B, .res0C, .res0D, .res0E, .res0H, .res0L, .res0MemHl, .res0A,
   .res1B, .res1C, .res1D, .res1E, .res1H, .res1L, .res1MemHl, .res1A]

/-- Second bytes 0x90 to 0x9F after the prefix 0xCB (rule R141). -/
def cbRow9 : List Instr :=
  [.res2B, .res2C, .res2D, .res2E, .res2H, .res2L, .res2MemHl, .res2A,
   .res3B, .res3C, .res3D, .res3E, .res3H, .res3L, .res3MemHl, .res3A]

/-- Second bytes 0xA0 to 0xAF after the prefix 0xCB (rule R141). -/
def cbRowA : List Instr :=
  [.res4B, .res4C, .res4D, .res4E, .res4H, .res4L, .res4MemHl, .res4A,
   .res5B, .res5C, .res5D, .res5E, .res5H, .res5L, .res5MemHl, .res5A]

/-- Second bytes 0xB0 to 0xBF after the prefix 0xCB (rule R141). -/
def cbRowB : List Instr :=
  [.res6B, .res6C, .res6D, .res6E, .res6H, .res6L, .res6MemHl, .res6A,
   .res7B, .res7C, .res7D, .res7E, .res7H, .res7L, .res7MemHl, .res7A]

/-- Second bytes 0xC0 to 0xCF after the prefix 0xCB (rule R141). -/
def cbRowC : List Instr :=
  [.set0B, .set0C, .set0D, .set0E, .set0H, .set0L, .set0MemHl, .set0A,
   .set1B, .set1C, .set1D, .set1E, .set1H, .set1L, .set1MemHl, .set1A]

/-- Second bytes 0xD0 to 0xDF after the prefix 0xCB (rule R141). -/
def cbRowD : List Instr :=
  [.set2B, .set2C, .set2D, .set2E, .set2H, .set2L, .set2MemHl, .set2A,
   .set3B, .set3C, .set3D, .set3E, .set3H, .set3L, .set3MemHl, .set3A]

/-- Second bytes 0xE0 to 0xEF after the prefix 0xCB (rule R141). -/
def cbRowE : List Instr :=
  [.set4B, .set4C, .set4D, .set4E, .set4H, .set4L, .set4MemHl, .set4A,
   .set5B, .set5C, .set5D, .set5E, .set5H, .set5L, .set5MemHl, .set5A]

/-- Second bytes 0xF0 to 0xFF after the prefix 0xCB (rule R141). -/
def cbRowF : List Instr :=
  [.set6B, .set6C, .set6D, .set6E, .set6H, .set6L, .set6MemHl, .set6A,
   .set7B, .set7C, .set7D, .set7E, .set7H, .set7L, .set7MemHl, .set7A]

/-- The extended map: all 256 second bytes are defined (rule R141). -/
def cbMap : List Instr :=
  cbRow0 ++ cbRow1 ++ cbRow2 ++ cbRow3 ++ cbRow4 ++ cbRow5 ++ cbRow6 ++ cbRow7 ++
  cbRow8 ++ cbRow9 ++ cbRowA ++ cbRowB ++ cbRowC ++ cbRowD ++ cbRowE ++ cbRowF

/-- The instruction the byte after the prefix 0xCB selects (rule R376). -/
def decodeCb (op : Byte) : Instr := cbMap.getD op.toNat .nop

/-- Opcodes 0x00 to 0x0F (rule R140). -/
def baseRow0 : List (Byte → Word → Instr) :=
  [fun _ _ => .nop, fun _ v => .ldBcD16 v, fun _ _ => .ldMemBcA, fun _ _ => .incBc,
   fun _ _ => .incB, fun _ _ => .decB, fun n _ => .ldBD8 n, fun _ _ => .rlca,
   fun _ v => .ldMemA16Sp v, fun _ _ => .addHlBc, fun _ _ => .ldAMemBc, fun _ _ => .decBc,
   fun _ _ => .incC, fun _ _ => .decC, fun n _ => .ldCD8 n, fun _ _ => .rrca]

/-- Opcodes 0x10 to 0x1F (rule R140). -/
def baseRow1 : List (Byte → Word → Instr) :=
  [fun _ _ => .stop, fun _ v => .ldDeD16 v, fun _ _ => .ldMemDeA, fun _ _ => .incDe,
   fun _ _ => .incD, fun _ _ => .decD, fun n _ => .ldDD8 n, fun _ _ => .rla,
   fun n _ => .jrE8 n, fun _ _ => .addHlDe, fun _ _ => .ldAMemDe, fun _ _ => .decDe,
   fun _ _ => .incE, fun _ _ => .decE, fun n _ => .ldED8 n, fun _ _ => .rra]

/-- Opcodes 0x20 to 0x2F (rule R140). -/
def baseRow2 : List (Byte → Word → Instr) :=
  [fun n _ => .jrNzE8 n, fun _ v => .ldHlD16 v, fun _ _ => .ldMemHlIncA, fun _ _ => .incHl,
   fun _ _ => .incH, fun _ _ => .decH, fun n _ => .ldHD8 n, fun _ _ => .daa,
   fun n _ => .jrZE8 n, fun _ _ => .addHlHl, fun _ _ => .ldAMemHlInc, fun _ _ => .decHl,
   fun _ _ => .incL, fun _ _ => .decL, fun n _ => .ldLD8 n, fun _ _ => .cpl]

/-- Opcodes 0x30 to 0x3F (rule R140). -/
def baseRow3 : List (Byte → Word → Instr) :=
  [fun n _ => .jrNcE8 n, fun _ v => .ldSpD16 v, fun _ _ => .ldMemHlDecA, fun _ _ => .incSp,
   fun _ _ => .incMemHl, fun _ _ => .decMemHl, fun n _ => .ldMemHlD8 n, fun _ _ => .scf,
   fun n _ => .jrCE8 n, fun _ _ => .addHlSp, fun _ _ => .ldAMemHlDec, fun _ _ => .decSp,
   fun _ _ => .incA, fun _ _ => .decA, fun n _ => .ldAD8 n, fun _ _ => .ccf]

/-- Opcodes 0x40 to 0x4F (rule R140). -/
def baseRow4 : List (Byte → Word → Instr) :=
  [fun _ _ => .ldBB, fun _ _ => .ldBC, fun _ _ => .ldBD, fun _ _ => .ldBE,
   fun _ _ => .ldBH, fun _ _ => .ldBL, fun _ _ => .ldBMemHl, fun _ _ => .ldBA,
   fun _ _ => .ldCB, fun _ _ => .ldCC, fun _ _ => .ldCD, fun _ _ => .ldCE,
   fun _ _ => .ldCH, fun _ _ => .ldCL, fun _ _ => .ldCMemHl, fun _ _ => .ldCA]

/-- Opcodes 0x50 to 0x5F (rule R140). -/
def baseRow5 : List (Byte → Word → Instr) :=
  [fun _ _ => .ldDB, fun _ _ => .ldDC, fun _ _ => .ldDD, fun _ _ => .ldDE,
   fun _ _ => .ldDH, fun _ _ => .ldDL, fun _ _ => .ldDMemHl, fun _ _ => .ldDA,
   fun _ _ => .ldEB, fun _ _ => .ldEC, fun _ _ => .ldED, fun _ _ => .ldEE,
   fun _ _ => .ldEH, fun _ _ => .ldEL, fun _ _ => .ldEMemHl, fun _ _ => .ldEA]

/-- Opcodes 0x60 to 0x6F (rule R140). -/
def baseRow6 : List (Byte → Word → Instr) :=
  [fun _ _ => .ldHB, fun _ _ => .ldHC, fun _ _ => .ldHD, fun _ _ => .ldHE,
   fun _ _ => .ldHH, fun _ _ => .ldHL, fun _ _ => .ldHMemHl, fun _ _ => .ldHA,
   fun _ _ => .ldLB, fun _ _ => .ldLC, fun _ _ => .ldLD, fun _ _ => .ldLE,
   fun _ _ => .ldLH, fun _ _ => .ldLL, fun _ _ => .ldLMemHl, fun _ _ => .ldLA]

/-- Opcodes 0x70 to 0x7F (rule R140). -/
def baseRow7 : List (Byte → Word → Instr) :=
  [fun _ _ => .ldMemHlB, fun _ _ => .ldMemHlC, fun _ _ => .ldMemHlD, fun _ _ => .ldMemHlE,
   fun _ _ => .ldMemHlH, fun _ _ => .ldMemHlL, fun _ _ => .halt, fun _ _ => .ldMemHlA,
   fun _ _ => .ldAB, fun _ _ => .ldAC, fun _ _ => .ldAD, fun _ _ => .ldAE,
   fun _ _ => .ldAH, fun _ _ => .ldAL, fun _ _ => .ldAMemHl, fun _ _ => .ldAA]

/-- Opcodes 0x80 to 0x8F (rule R140). -/
def baseRow8 : List (Byte → Word → Instr) :=
  [fun _ _ => .addAB, fun _ _ => .addAC, fun _ _ => .addAD, fun _ _ => .addAE,
   fun _ _ => .addAH, fun _ _ => .addAL, fun _ _ => .addAMemHl, fun _ _ => .addAA,
   fun _ _ => .adcAB, fun _ _ => .adcAC, fun _ _ => .adcAD, fun _ _ => .adcAE,
   fun _ _ => .adcAH, fun _ _ => .adcAL, fun _ _ => .adcAMemHl, fun _ _ => .adcAA]

/-- Opcodes 0x90 to 0x9F (rule R140). -/
def baseRow9 : List (Byte → Word → Instr) :=
  [fun _ _ => .subAB, fun _ _ => .subAC, fun _ _ => .subAD, fun _ _ => .subAE,
   fun _ _ => .subAH, fun _ _ => .subAL, fun _ _ => .subAMemHl, fun _ _ => .subAA,
   fun _ _ => .sbcAB, fun _ _ => .sbcAC, fun _ _ => .sbcAD, fun _ _ => .sbcAE,
   fun _ _ => .sbcAH, fun _ _ => .sbcAL, fun _ _ => .sbcAMemHl, fun _ _ => .sbcAA]

/-- Opcodes 0xA0 to 0xAF (rule R140). -/
def baseRowA : List (Byte → Word → Instr) :=
  [fun _ _ => .andAB, fun _ _ => .andAC, fun _ _ => .andAD, fun _ _ => .andAE,
   fun _ _ => .andAH, fun _ _ => .andAL, fun _ _ => .andAMemHl, fun _ _ => .andAA,
   fun _ _ => .xorAB, fun _ _ => .xorAC, fun _ _ => .xorAD, fun _ _ => .xorAE,
   fun _ _ => .xorAH, fun _ _ => .xorAL, fun _ _ => .xorAMemHl, fun _ _ => .xorAA]

/-- Opcodes 0xB0 to 0xBF (rule R140). -/
def baseRowB : List (Byte → Word → Instr) :=
  [fun _ _ => .orAB, fun _ _ => .orAC, fun _ _ => .orAD, fun _ _ => .orAE,
   fun _ _ => .orAH, fun _ _ => .orAL, fun _ _ => .orAMemHl, fun _ _ => .orAA,
   fun _ _ => .cpAB, fun _ _ => .cpAC, fun _ _ => .cpAD, fun _ _ => .cpAE,
   fun _ _ => .cpAH, fun _ _ => .cpAL, fun _ _ => .cpAMemHl, fun _ _ => .cpAA]

/-- Opcodes 0xC0 to 0xCF (rule R140). -/
def baseRowC : List (Byte → Word → Instr) :=
  [fun _ _ => .retNz, fun _ _ => .popBc, fun _ v => .jpNzA16 v, fun _ v => .jpA16 v,
   fun _ v => .callNzA16 v, fun _ _ => .pushBc, fun n _ => .addAD8 n, fun _ _ => .rst00,
   fun _ _ => .retZ, fun _ _ => .ret, fun _ v => .jpZA16 v, fun n _ => decodeCb n,
   fun _ v => .callZA16 v, fun _ v => .callA16 v, fun n _ => .adcAD8 n, fun _ _ => .rst08]

/-- Opcodes 0xD0 to 0xDF (rule R140). -/
def baseRowD : List (Byte → Word → Instr) :=
  [fun _ _ => .retNc, fun _ _ => .popDe, fun _ v => .jpNcA16 v, fun _ _ => .illegalD3,
   fun _ v => .callNcA16 v, fun _ _ => .pushDe, fun n _ => .subAD8 n, fun _ _ => .rst10,
   fun _ _ => .retC, fun _ _ => .reti, fun _ v => .jpCA16 v, fun _ _ => .illegalDB,
   fun _ v => .callCA16 v, fun _ _ => .illegalDD, fun n _ => .sbcAD8 n, fun _ _ => .rst18]

/-- Opcodes 0xE0 to 0xEF (rule R140). -/
def baseRowE : List (Byte → Word → Instr) :=
  [fun n _ => .ldhMemA8A n, fun _ _ => .popHl, fun _ _ => .ldMemCA, fun _ _ => .illegalE3,
   fun _ _ => .illegalE4, fun _ _ => .pushHl, fun n _ => .andAD8 n, fun _ _ => .rst20,
   fun n _ => .addSpE8 n, fun _ _ => .jpHl, fun _ v => .ldMemA16A v, fun _ _ => .illegalEB,
   fun _ _ => .illegalEC, fun _ _ => .illegalED, fun n _ => .xorAD8 n, fun _ _ => .rst28]

/-- Opcodes 0xF0 to 0xFF (rule R140). -/
def baseRowF : List (Byte → Word → Instr) :=
  [fun n _ => .ldhAMemA8 n, fun _ _ => .popAf, fun _ _ => .ldAMemC, fun _ _ => .di,
   fun _ _ => .illegalF4, fun _ _ => .pushAf, fun n _ => .orAD8 n, fun _ _ => .rst30,
   fun n _ => .ldHlSpE8 n, fun _ _ => .ldSpHl, fun _ v => .ldAMemA16 v, fun _ _ => .ei,
   fun _ _ => .illegalFC, fun _ _ => .illegalFD, fun n _ => .cpAD8 n, fun _ _ => .rst38]

/-- The base map: every byte value has exactly one meaning (rule R139). -/
def baseMap : List (Byte → Word → Instr) :=
  baseRow0 ++ baseRow1 ++ baseRow2 ++ baseRow3 ++ baseRow4 ++ baseRow5 ++ baseRow6 ++ baseRow7 ++
  baseRow8 ++ baseRow9 ++ baseRowA ++ baseRowB ++ baseRowC ++ baseRowD ++ baseRowE ++ baseRowF

/-- First bytes of the format `OP_I16`, three bytes long (rules R130 and R145). -/
def opcodesI16 : List Byte :=
  [0x01, 0x08, 0x11, 0x21, 0x31, 0xC2, 0xC3, 0xC4, 0xCA,
   0xCC, 0xCD, 0xD2, 0xD4, 0xDA, 0xDC, 0xEA, 0xFA]

/-- First bytes of the two-byte formats `OP_I8` and `CB_OP` (rules R130 and R145). STOP, 0x10, is nominally one. -/
def opcodesI8 : List Byte :=
  [0x06, 0x0E, 0x10, 0x16, 0x18, 0x1E, 0x20, 0x26, 0x28, 0x2E, 0x30, 0x36, 0x38,
   0x3E, 0xC6, 0xCE, 0xD6, 0xDE, 0xE0, 0xE6, 0xE8, 0xEE, 0xF0, 0xF6, 0xF8, 0xFE, 0xCB]

/-- Length in bytes of the instruction a first byte begins: "the opcode ... alone determines the length" (rule R130). -/
def opLength (op : Byte) : Nat :=
  if opcodesI16.contains op then 3 else if opcodesI8.contains op then 2 else 1

/-- How many bytes executing the instruction fetches: its length, but one for STOP, whose "second byte is not
fetched" (rule R373). -/
def fetchLength (op : Byte) : Nat := if op = 0x10 then 1 else opLength op

/-- Decoding is total on three bytes (rule R139); bytes past the instruction's length are not looked at. -/
def decodeBytes (b0 b1 b2 : Byte) : Instr :=
  baseMap.getD b0.toNat (fun _ _ => .nop) b1 (Word.ofBytes b2 b1)

/-- Why a list of bytes begins with no instruction: the only way is that it ends too early. -/
inductive DecodeError where
  /-- No byte at all. Raised by `decode`; safe, since it is no instruction of the spec. -/
  | empty
  /-- The instruction the first byte begins is longer than the list. Raised by `decode`; safe. -/
  | truncated (op : Byte)
  deriving DecidableEq, Repr

/-- The instruction a list of bytes begins with, and the bytes after it. -/
def decode : List Byte → Except DecodeError (Instr × List Byte)
  | [] => .error .empty
  | b0 :: rest =>
    if rest.length + 1 < opLength b0 then .error (.truncated b0)
    else .ok (decodeBytes b0 (rest.getD 0 0) (rest.getD 1 0), rest.drop (opLength b0 - 1))

/-! ## Encoder, from the fields of rules R131 to R141 -/

/-- The opcode byte with fields `x`, `y`, `z` (rule R131). -/
def opcode (x : BitVec 2) (y z : BitVec 3) : Byte := x ++ y ++ z

/-- `y` made of `p` and `q` (rule R131). -/
def fieldPQ (p : BitVec 2) (q : BitVec 1) : BitVec 3 := p ++ q

/-- Index in the table `r` (rule R132). -/
def Reg8.code : Reg8 → BitVec 3
  | .b => 0 | .c => 1 | .d => 2 | .e => 3 | .h => 4 | .l => 5 | .a => 7

/-- Index in the table `r`, `(HL)` included (rule R132). -/
def Loc8.code : Loc8 → BitVec 3
  | .reg r => r.code
  | .mem => 6

/-- Index in the table `rp` (rule R133). -/
def Pair.code : Pair → BitVec 2
  | .bc => 0 | .de => 1 | .hl => 2 | .sp => 3

/-- Index in the table `rp2` (rule R134). -/
def StackPair.code : StackPair → BitVec 2
  | .bc => 0 | .de => 1 | .hl => 2 | .af => 3

/-- `p` of `LD (BC),A`, `LD (DE),A`, `LD A,(BC)`, `LD A,(DE)` (rule R140). -/
def IndPair.code : IndPair → BitVec 2
  | .bc => 0 | .de => 1

/-- `p` of the `(HL+)` and `(HL-)` forms (rule R140). -/
def HlStep.code : HlStep → BitVec 2
  | .inc => 2 | .dec => 3

/-- Index in the table `cc` (rule R135). -/
def Cond.code : Cond → BitVec 2
  | .nz => 0 | .z => 1 | .nc => 2 | .c => 3

/-- `y` of a condition whose field is two bits wide with a zero above it (rule R140, x = 3). -/
def Cond.y (cc : Cond) : BitVec 3 := (0 : BitVec 1) ++ cc.code

/-- Index in the table `alu` (rule R136). -/
def AluOp.code : AluOp → BitVec 3
  | .add => 0 | .adc => 1 | .sub => 2 | .sbc => 3 | .and => 4 | .xor => 5 | .or => 6 | .cp => 7

/-- Index in the table `rot` (rule R137). -/
def RotOp.code : RotOp → BitVec 3
  | .rlc => 0 | .rrc => 1 | .rl => 2 | .rr => 3 | .sla => 4 | .sra => 5 | .swap => 6 | .srl => 7

/-- `y` of the accumulator rotates (rule R140, x = 0, z = 7). -/
def AccRotOp.code : AccRotOp → BitVec 3
  | .rlc => 0 | .rrc => 1 | .rl => 2 | .rr => 3

/-- The bytes of a shape, opcode first, low immediate byte before high (rules R94, R130, R138, R140, R141). The
second byte of STOP is written 0x00 (rule R373). -/
def Shape.encode : Shape → List Byte
  | .nop => [opcode 0 0 0]
  | .ldAbsSp a => [opcode 0 1 0, Word.lo a, Word.hi a]
  | .stop => [opcode 0 2 0, 0]
  | .jr e => [opcode 0 3 0, e]
  | .jrCond cc e => [opcode 0 ((1 : BitVec 1) ++ cc.code) 0, e]
  | .ldPairImm p v => [opcode 0 (fieldPQ p.code 0) 1, Word.lo v, Word.hi v]
  | .addHl p => [opcode 0 (fieldPQ p.code 1) 1]
  | .ldIndA p => [opcode 0 (fieldPQ p.code 0) 2]
  | .ldHlStepA st => [opcode 0 (fieldPQ st.code 0) 2]
  | .ldAInd p => [opcode 0 (fieldPQ p.code 1) 2]
  | .ldAHlStep st => [opcode 0 (fieldPQ st.code 1) 2]
  | .incPair p => [opcode 0 (fieldPQ p.code 0) 3]
  | .decPair p => [opcode 0 (fieldPQ p.code 1) 3]
  | .incReg r => [opcode 0 r.code 4]
  | .incMem => [opcode 0 6 4]
  | .decReg r => [opcode 0 r.code 5]
  | .decMem => [opcode 0 6 5]
  | .ldRegImm r n => [opcode 0 r.code 6, n]
  | .ldHlImm n => [opcode 0 6 6, n]
  | .rotA op => [opcode 0 op.code 7]
  | .daa => [opcode 0 4 7]
  | .cpl => [opcode 0 5 7]
  | .scf => [opcode 0 6 7]
  | .ccf => [opcode 0 7 7]
  | .ldRegReg dst src => [opcode 1 dst.code src.code]
  | .ldRegHl dst => [opcode 1 dst.code 6]
  | .ldHlReg src => [opcode 1 6 src.code]
  | .halt => [opcode 1 6 6]
  | .alu op (.reg r) => [opcode 2 op.code r.code]
  | .alu op .mem => [opcode 2 op.code 6]
  | .alu op (.imm n) => [opcode 3 op.code 6, n]
  | .retCond cc => [opcode 3 cc.y 0]
  | .ldhStoreA n => [opcode 3 4 0, n]
  | .addSp e => [opcode 3 5 0, e]
  | .ldhA n => [opcode 3 6 0, n]
  | .ldHlSpE8 e => [opcode 3 7 0, e]
  | .pop p => [opcode 3 (fieldPQ p.code 0) 1]
  | .ret => [opcode 3 (fieldPQ 0 1) 1]
  | .reti => [opcode 3 (fieldPQ 1 1) 1]
  | .jpHl => [opcode 3 (fieldPQ 2 1) 1]
  | .ldSpHl => [opcode 3 (fieldPQ 3 1) 1]
  | .jpCond cc a => [opcode 3 cc.y 2, Word.lo a, Word.hi a]
  | .ldHighCA => [opcode 3 4 2]
  | .ldAbsA a => [opcode 3 5 2, Word.lo a, Word.hi a]
  | .ldAHighC => [opcode 3 6 2]
  | .ldAAbs a => [opcode 3 7 2, Word.lo a, Word.hi a]
  | .jp a => [opcode 3 0 3, Word.lo a, Word.hi a]
  | .di => [opcode 3 6 3]
  | .ei => [opcode 3 7 3]
  | .callCond cc a => [opcode 3 cc.y 4, Word.lo a, Word.hi a]
  | .push p => [opcode 3 (fieldPQ p.code 0) 5]
  | .call a => [opcode 3 (fieldPQ 0 1) 5, Word.lo a, Word.hi a]
  | .rst n => [opcode 3 n 7]
  | .illegal op => [op]
  | .rot op o => [0xCB, opcode 0 op.code o.code]
  | .bit n o => [0xCB, opcode 1 n o.code]
  | .res n o => [0xCB, opcode 2 n o.code]
  | .setBit n o => [0xCB, opcode 3 n o.code]

/-- The bytes of an instruction at ascending addresses (rule R130). -/
def encode (i : Instr) : List Byte := i.shape.encode

/-! ## Words numbered as the opcode table numbers them -/

/-- The bytes of an instruction whose table bits are `w`, `nbits` of them, padded with zeros to three bytes (the
longest instruction). One byte: `w` itself. Two bytes: the table's number of a prefixed row has the prefix 0xCB in
bits 15 to 8 (rule R149 reads the bytes as one big-endian number); a number with 0xCB in bits 7 to 0 has the first
byte there. Otherwise the first byte is bits 7 to 0 and later bytes count on from it. -/
def tableBytes (nbits w : Nat) : Byte × Byte × Byte :=
  let b0 := BitVec.ofNat 8 w
  let b1 := BitVec.ofNat 8 (w / 0x100)
  let b2 := BitVec.ofNat 8 (w / 0x10000)
  if nbits ≤ 8 then (b0, 0, 0)
  else if nbits ≤ 16 then
    if b1 = 0xCB ∧ b0 ≠ 0xCB then (b1, b0, 0) else (b0, b1, 0)
  else (b0, b1, b2)

/-- The instruction the decoder reads from a word numbered as spec/opcode_table.json numbers it. -/
def decodeTableWord (nbits w : Nat) : Option Instr :=
  match tableBytes nbits w with
  | (b0, b1, b2) =>
    match decode [b0, b1, b2] with
    | .ok (i, _) => some i
    | .error _ => none

end Sys2Proof
end

