-- ==== Sys2Proof/Machine/Dma.lean ====
section
/-! DEFINITION. The OAM DMA controller (spec/62_dma.md); its trigger is the write to 0xFF46 in Ops.lean (rule R481). -/

namespace Sys2Proof.Machine

/-- The bus address of the byte the controller copies next (rule R483). -/
def Dma.source (d : Dma) : Word := BitVec.ofNat 16 (d.page.toNat * 0x100 + d.index)

/-- The bus address of entry byte `i` of OAM (rule R61). -/
def oamAddr (i : Nat) : Nat := 0xFE00 + i

/-- One copied byte: read through the bus, stored directly into OAM (rules R482 to R484). -/
def State.dmaCopy (s : State) : State :=
  let b := s.busRead s.dma.source
  let s1 := (s.noteRead s.dma.source).storeByte (oamAddr s.dma.index) b
  { s1 with
    dma := { s.dma with
      index := s.dma.index + 1
      state := if s.dma.index + 1 = 160 then .idle else .transfer } }

/-- `DmaTick` (rule R482). -/
def State.dmaTick (s : State) : State :=
  match s.dma.state with
  | .idle => s
  | .startDelay =>
    { s with
      dma := { s.dma with
        delay := s.dma.delay - 1
        state := if s.dma.delay - 1 = 0 then .transfer else .startDelay } }
  | .transfer => s.dmaCopy

end Sys2Proof.Machine
end

