-- ==== Sys2Proof/Machine/Fetcher.lean ====
section
/-! DEFINITION. Pixel fetcher, FIFO and scanline pusher (spec/64_pixel_fetcher.md). VRAM offsets are those of the
rules; a byte of the `vram` array is read directly, not through the bus (rule R98). -/

namespace Sys2Proof.Machine

/-- `vram[off]` (rules R59 and R98). -/
def State.vramAt (s : State) (off : Nat) : Byte := s.mem.byteAt (0x8000 + off)

/-- `SCX mod 8`, the `k` of rule R555. -/
def Ppu.fineScroll (p : Ppu) : Nat := p.scx.toNat % 8

/-- `FetcherReset` with the FIFO emptied by its caller (rules R501 and R541); `window_used` is cleared in
`State.fetcherReset`. -/
def Fetcher.cleared : Fetcher :=
  { phase := .fetchTileId, fetchX := 0, fifoX := 0, lineX := 0, pushedX := 0, bgwTile := 0, bgwRow := 0, bgwLo := 0,
    bgwHi := 0, fetched := [], fifo := [] }

/-- `FetcherReset; fifo <- empty` (rules R501 and R541). -/
def State.fetcherReset (s : State) : State :=
  { s with fetcher := Fetcher.cleared, ppu := { s.ppu with windowUsed := false } }

/-! ## FetchTileId -/

/-- Whether the group at `fetchX` is a window group (rules R543 and R548). -/
def Ppu.windowGroup (p : Ppu) (fetchX : Nat) : Bool :=
  p.lcdc.getLsbD 5 && decide (p.wx.toNat ≤ 166) && decide (p.wy.toNat < 144) && decide (p.wy.toNat ≤ p.ly.toNat) &&
    decide (p.wx.toNat ≤ fetchX + 7)

/-- The base offset of a tile map selected by an LCDC bit (rule R543). -/
def mapBase (high : Bool) : Nat := if high then 0x1C00 else 0x1800

/-- Tile map base, tile column, pixel row in the map or window, for the group at `fetchX` (rule R543). -/
def Ppu.mapPoint (p : Ppu) (fetchX : Nat) : Nat × Nat × Nat :=
  if p.windowGroup fetchX then
    (mapBase (p.lcdc.getLsbD 6), (fetchX + 7 - p.wx.toNat) / 8 % 32, p.windowLine.toNat)
  else
    (mapBase (p.lcdc.getLsbD 3), (fetchX + p.scx.toNat) % 256 / 8, (p.ly.toNat + p.scy.toNat) % 256)

/-- The FIFO coordinate of a sprite's leftmost pixel, `e.x - 8 + k`, an integer (rule R544). -/
def OamEntry.leftX (e : OamEntry) (k : Nat) : Int := (e.x.toNat : Int) - 8 + k

/-- Whether a sprite's eight columns overlap the group at `fetchX` (rule R544). -/
def OamEntry.overlaps (e : OamEntry) (k fetchX : Nat) : Bool :=
  decide (e.leftX k < (fetchX : Int) + 8) && decide ((fetchX : Int) < e.leftX k + 8)

/-- The sprite pick: the first three overlapping entries of `line_sprites`, with cleared latches (rule R544). -/
def Ppu.pick (p : Ppu) (fetchX : Nat) : List Fetched :=
  if p.lcdc.getLsbD 1 then
    ((p.lineSprites.filter fun e => e.overlaps p.fineScroll fetchX).take 3).map fun e => { entry := e, lo := 0, hi := 0 }
  else []

/-- Phase FetchTileId (rules R542 to R544). -/
def State.fetchTileId (s : State) : State :=
  let m := s.ppu.mapPoint s.fetcher.fetchX
  let tid := s.vramAt (m.1 + m.2.2 / 8 % 32 * 32 + m.2.1)
  { s with
    ppu := { s.ppu with windowUsed := s.ppu.windowUsed || s.ppu.windowGroup s.fetcher.fetchX }
    fetcher := { s.fetcher with
      bgwTile := if s.ppu.lcdc.getLsbD 4 then tid else tid + 128
      bgwRow := BitVec.ofNat 3 (m.2.2 % 8)
      fetched := s.ppu.pick s.fetcher.fetchX
      fetchX := s.fetcher.fetchX + 8
      phase := .fetchDataHigh } }

/-! ## FetchDataHigh and FetchDataLow -/

/-- VRAM offset of the latched tile row's byte of a plane (rule R545). -/
def bgOffset (p : Ppu) (f : Fetcher) (plane : Nat) : Nat :=
  (if p.lcdc.getLsbD 4 then 0x0000 else 0x0800) + f.bgwTile.toNat * 16 + f.bgwRow.toNat * 2 + plane

/-- Sprite height by LCDC bit 2 (rule R41). -/
def Ppu.spriteHeight (p : Ppu) : Nat := if p.lcdc.getLsbD 2 then 16 else 8

/-- The row inside a sprite, y-flip applied, modulo 256 (rule R546). -/
def spriteRow (p : Ppu) (e : OamEntry) : Nat :=
  let ty := (p.ly.toNat + 16 + 256 - e.y.toNat) % 256
  if e.attr.getLsbD 6 then (p.spriteHeight - 1 + 256 - ty) % 256 else ty

/-- The tile of a sprite: bit 0 ignored at height 16 (rule R546). -/
def spriteTile (p : Ppu) (e : OamEntry) : Nat :=
  if p.lcdc.getLsbD 2 then (e.tile &&& 0xFE).toNat else e.tile.toNat

/-- VRAM offset of a sprite row's byte of a plane (rule R546). -/
def spriteOffset (p : Ppu) (e : OamEntry) (plane : Nat) : Nat :=
  (spriteTile p e * 16 + spriteRow p e * 2 + plane) % 0x2000

/-- Phase FetchDataHigh: plane 0 (rules R542, R545, R546). -/
def State.fetchPlane0 (s : State) : State :=
  { s with fetcher := { s.fetcher with
      bgwLo := s.vramAt (bgOffset s.ppu s.fetcher 0)
      fetched := s.fetcher.fetched.map fun x => { x with lo := s.vramAt (spriteOffset s.ppu x.entry 0) }
      phase := .fetchDataLow } }

/-- Phase FetchDataLow: plane 1 (rules R542, R545, R546). -/
def State.fetchPlane1 (s : State) : State :=
  { s with fetcher := { s.fetcher with
      bgwHi := s.vramAt (bgOffset s.ppu s.fetcher 1)
      fetched := s.fetcher.fetched.map fun x => { x with hi := s.vramAt (spriteOffset s.ppu x.entry 1) }
      phase := .sleep } }

/-! ## Push -/

/-- The colour index two plane bytes give at a bit (rules R545 and R551). -/
def colourIndex (lo hi : Byte) (bit : Nat) : BitVec 2 := BitVec.ofBool (hi.getLsbD bit) ++ BitVec.ofBool (lo.getLsbD bit)

/-- The shade a palette gives an index (rule R553). -/
def paletteShade (pal : Byte) (idx : BitVec 2) : BitVec 2 := pal.extractLsb' (2 * idx.toNat) 2

/-- The background or window index of pixel `j` of the group, forced to 0 with LCDC bit 0 = 0 (rules R550 and R551). -/
def bgIndex (p : Ppu) (f : Fetcher) (j : Nat) : BitVec 2 :=
  if p.lcdc.getLsbD 0 then colourIndex f.bgwLo f.bgwHi (7 - j) else 0

/-- The shade a fetched sprite gives the pixel at FIFO coordinate `x` over background index `idx`, or none where it does
not cover it, is transparent there or loses to the background (rules R550 and R552). -/
def spriteShade (p : Ppu) (idx : BitVec 2) (x : Nat) (t : Fetched) : Option (BitVec 2) :=
  let off : Int := (x : Int) - t.entry.leftX p.fineScroll
  if off < 0 ∨ 7 < off then none
  else
    let sb := if t.entry.attr.getLsbD 5 then off.toNat else 7 - off.toNat
    let sidx := colourIndex t.lo t.hi sb
    if sidx = 0 then none
    else if t.entry.attr.getLsbD 7 ∧ idx ≠ 0 then none
    else some (paletteShade (if t.entry.attr.getLsbD 4 then p.obp1 else p.obp0) sidx)

/-- The shade of pixel `j` of the group, at FIFO coordinate `fifo_x + j` (rules R550 to R552). -/
def pixelShade (p : Ppu) (f : Fetcher) (j : Nat) : BitVec 2 :=
  let idx := bgIndex p f j
  let bg := paletteShade p.bgp idx
  if p.lcdc.getLsbD 1 then (f.fetched.findSome? (spriteShade p idx (f.fifoX + j))).getD bg else bg

/-- The eight pixels of a group, leftmost first (rule R550). -/
def groupShades (p : Ppu) (f : Fetcher) : List (BitVec 2) := (List.range 8).map (pixelShade p f)

/-- Phase Push: repeated while the FIFO holds more than 8 entries (rule R550). -/
def State.fetchPush (s : State) : State :=
  if 8 < s.fetcher.fifo.length then s
  else
    { s with fetcher := { s.fetcher with
        fifo := s.fetcher.fifo ++ groupShades s.ppu s.fetcher
        fifoX := s.fetcher.fifoX + 8
        phase := .fetchTileId } }

/-- `FetcherStep` (rules R542 and R547). -/
def State.fetcherStep (s : State) : State :=
  match s.fetcher.phase with
  | .fetchTileId => s.fetchTileId
  | .fetchDataHigh => s.fetchPlane0
  | .fetchDataLow => s.fetchPlane1
  | .sleep => { s with fetcher := { s.fetcher with phase := .push } }
  | .push => s.fetchPush

/-! ## The pusher -/

/-- The number of a frame buffer pixel (rule R63). -/
def pixelNumber (x y : Nat) : Nat := y * 160 + x

/-- The write of a popped pixel into the frame buffer, with the guards that make it total (rule R554). -/
def State.plot (s : State) (px : BitVec 2) : State :=
  if s.fetcher.pushedX < 160 ∧ s.ppu.ly.toNat < 144 then
    { s with framebuf := sparseInsert s.framebuf (pixelNumber s.fetcher.pushedX s.ppu.ly.toNat) px }
  else s

/-- A popped pixel: discarded below `SCX mod 8`, else written (rule R554). -/
def State.emitPixel (s : State) (px : BitVec 2) : State :=
  if s.ppu.fineScroll ≤ s.fetcher.lineX then
    let s1 := s.plot px
    { s1 with fetcher := { s1.fetcher with pushedX := s1.fetcher.pushedX + 1 } }
  else s

/-- `PusherStep` (rule R554). -/
def State.pusherStep (s : State) : State :=
  match s.fetcher.fifo with
  | [] => s
  | px :: rest =>
    if 8 < (px :: rest).length then
      let s1 := { s with fetcher := { s.fetcher with fifo := rest } }.emitPixel px
      { s1 with fetcher := { s1.fetcher with lineX := s1.fetcher.lineX + 1 } }
    else s

end Sys2Proof.Machine
end

