-- ==== Sys2Proof/Machine/Ppu.lean ====
section
/-! DEFINITION. The PPU mode state machine, lines and frames (spec/63_ppu.md). -/

namespace Sys2Proof.Machine

/-- STAT bit `n`, 3 to 6: bit `n - 3` of `stat_sel` (rules R42 and R501). -/
def Ppu.statBit (p : Ppu) (n : Nat) : Bool := p.statSel.getLsbD (n - 3)

/-- `request(1)` if a STAT select bit is set (rules R506, R510, R513, R515). -/
def State.requestStat (s : State) (n : Nat) : State := if s.ppu.statBit n then s.request 1 else s

/-! ## Sprite selection -/

/-- Entry `i` of the `oam` array, read directly (rules R61 and R98). -/
def State.oamEntry (s : State) (i : Nat) : OamEntry :=
  { y := s.mem.byteAt (oamAddr (4 * i)), x := s.mem.byteAt (oamAddr (4 * i + 1)),
    tile := s.mem.byteAt (oamAddr (4 * i + 2)), attr := s.mem.byteAt (oamAddr (4 * i + 3)) }

/-- Whether an entry is on the current line (rule R508). -/
def Ppu.onLine (p : Ppu) (e : OamEntry) : Bool :=
  decide (e.y.toNat ≤ p.ly.toNat + 16) && decide (p.ly.toNat + 16 < e.y.toNat + p.spriteHeight)

/-- Inserts an entry before the first one of the list whose x is not smaller. -/
def insertByX (e : OamEntry) : List OamEntry → List OamEntry
  | [] => [e]
  | g :: rest => if e.x.toNat ≤ g.x.toNat then e :: g :: rest else g :: insertByX e rest

/-- Stable sort by ascending x: entries with equal x keep their order (rule R508). -/
def sortByX (l : List OamEntry) : List OamEntry := l.foldr insertByX []

/-- The entries selected for the line, in OAM order: the first ten on the line (rule R508). -/
def State.selected (s : State) : List OamEntry :=
  (((List.range 40).map s.oamEntry).filter s.ppu.onLine).take 10

/-- `SelectSprites` (rule R508). -/
def State.selectSprites (s : State) : State :=
  { s with ppu := { s.ppu with lineSprites := sortByX s.selected } }

/-! ## Line end -/

/-- `EmitFrame` (rule R514). -/
def State.emitFrame (s : State) : State := { s with frames := s.frames ++ [s.framebuf] }

/-- `CompareLYC` (rule R513). -/
def State.compareLyc (s : State) : State :=
  if s.ppu.ly = s.ppu.lyc then { s with ppu := { s.ppu with lycFlag := true } }.requestStat 6
  else { s with ppu := { s.ppu with lycFlag := false } }

/-- `window_line` at a line end (rule R512). -/
def Ppu.nextWindowLine (p : Ppu) : Byte := if p.windowUsed then p.windowLine + 1 else p.windowLine

/-- The line counter of `IncrementLY` with the frame wrap, before the comparison (rule R512). -/
def State.advanceLy (s : State) : State :=
  if 154 ≤ (s.ppu.ly + 1).toNat then
    { s with ppu := { s.ppu with ly := 0, windowLine := 0, windowUsed := false, mode := .oamScan } }.emitFrame
  else
    { s with ppu := { s.ppu with ly := s.ppu.ly + 1, windowLine := s.ppu.nextWindowLine, windowUsed := false } }

/-- `IncrementLY` (rule R512). -/
def State.incrementLy (s : State) : State := s.advanceLy.compareLyc

/-! ## The dot -/

/-- An OamScan dot (rules R501 and R502). -/
def State.oamScanDot (s : State) : State :=
  let s1 :=
    if s.ppu.lineDot = 79 then
      let s2 := s.selectSprites.fetcherReset
      { s2 with ppu := { s2.ppu with mode := .draw } }
    else s
  { s1 with ppu := { s1.ppu with lineDot := s1.ppu.lineDot + 1 } }

/-- The end of Draw: FIFO emptied, HBlank, and the HBlank STAT request (rule R506). -/
def State.endDraw (s : State) : State :=
  { s with fetcher := { s.fetcher with fifo := [] }, ppu := { s.ppu with mode := .hblank } }.requestStat 3

/-- A Draw dot: fetcher step in even dots, pusher step, end test (rules R501 and R504). -/
def State.drawDot (s : State) : State :=
  let s1 := if s.ppu.lineDot % 2 = 0 then s.fetcherStep else s
  let s2 := s1.pusherStep
  let s3 := if 160 ≤ s2.fetcher.pushedX then s2.endDraw else s2
  { s3 with ppu := { s3.ppu with lineDot := s3.ppu.lineDot + 1 } }

/-- Entering VBlank (rule R510). -/
def State.enterVBlank (s : State) : State :=
  ({ s with ppu := { s.ppu with mode := .vblank } }.request 0).requestStat 4

/-- An HBlank dot (rules R501, R507, R509). -/
def State.hblankDot (s : State) : State :=
  if s.ppu.lineDot + 1 = 456 then
    let s1 := { s with ppu := { s.ppu with lineDot := 0 } }.incrementLy
    if s1.ppu.ly = 144 then s1.enterVBlank else { s1 with ppu := { s1.ppu with mode := .oamScan } }
  else { s with ppu := { s.ppu with lineDot := s.ppu.lineDot + 1 } }

/-- A VBlank dot (rules R501 and R511). -/
def State.vblankDot (s : State) : State :=
  if s.ppu.lineDot + 1 = 456 then { s with ppu := { s.ppu with lineDot := 0 } }.incrementLy
  else { s with ppu := { s.ppu with lineDot := s.ppu.lineDot + 1 } }

/-- `PpuTick`, one dot (rule R501). -/
def State.ppuTick (s : State) : State :=
  match s.ppu.mode with
  | .oamScan => s.oamScanDot
  | .draw => s.drawDot
  | .hblank => s.hblankDot
  | .vblank => s.vblankDot

/-! ## The render boundary -/

/-- A completed frame as the render boundary sees it: 160 x 144 colours, row by row (rules R64 and R514; log entry 10). -/
def FrameBuf.colours (fb : FrameBuf) : List Rgb := (List.range (160 * 144)).map fun n => Config.shadeRgb (fb.pixelAt n)

end Sys2Proof.Machine
end

