-- ==== Sys2Proof/Machine/Timer.lean ====
section
/-! DEFINITION. The timer and its divider-edge detector (spec/61_timer.md). -/

namespace Sys2Proof.Machine

/-- The divider bit a rate field selects (rule R465). -/
def tap (rate : BitVec 2) : Nat :=
  if rate = 0 then 9 else if rate = 1 then 3 else if rate = 2 then 5 else 7

/-- TAC bit 2: timing enabled (rule R36). -/
def Timer.enabled (t : Timer) : Bool := t.tac.getLsbD 2

/-- The monitored divider bit (rules R461 and R465). -/
def Timer.tapBit (t : Timer) : Nat := tap (t.tac.extractLsb' 0 2)

/-- Whether this tick's increment of the divider makes the monitored bit fall while timing is enabled (rule R461). -/
def Timer.edge (t : Timer) : Bool :=
  t.enabled && t.div16.getLsbD t.tapBit && !(t.div16 + 1).getLsbD t.tapBit

/-- `TimaIncrement`: on overflow TIMA reloads from TMA and source 2 is requested (rule R463). -/
def State.timaIncrement (s : State) : State :=
  if s.timer.tima + 1 = 0 then
    { s with timer := { s.timer with tima := s.timer.tma } }.request 2
  else { s with timer := { s.timer with tima := s.timer.tima + 1 } }

/-- `TimerTick` (rule R461). -/
def State.timerTick (s : State) : State :=
  let s1 := { s with timer := { s.timer with div16 := s.timer.div16 + 1 } }
  if s.timer.edge then s1.timaIncrement else s1

end Sys2Proof.Machine
end

