-- ==== Sys2Proof/Machine/Schedule.lean ====
section
/-! DEFINITION. The scheduler and the parts of a step around the instruction (spec/50_step_scheduler.md): `Advance`,
dispatch, the environment's turn, fetching. `Step` itself is put together in Machine/Cycle.lean. -/

namespace Sys2Proof.Machine

/-! ## Advance -/

/-- One T-cycle: the cycle counter, the Timer, the PPU, in that order (rule R402). -/
def State.tCycle (s : State) : State := { s with cycles := s.cycles + 1 }.timerTick.ppuTick

/-- `n` T-cycles. -/
def State.tCycles : Nat → State → State
  | 0, s => s
  | n + 1, s => State.tCycles n s.tCycle

/-- One M-cycle: four T-cycles, then the DMA tick (rule R402). -/
def State.mCycle (s : State) : State := (State.tCycles 4 s).dmaTick

/-- `Advance(m)` (rule R402). -/
def State.advance : Nat → State → State
  | 0, s => s
  | m + 1, s => State.advance m s.mCycle

/-! ## Dispatch and the EI latch -/

/-- `DispatchCheck` (rule R427). -/
def State.dispatchCheck (s : State) : State :=
  match s.irq.lowestSource with
  | some i => State.advance 5 (s.takeInterrupt i)
  | none => s

/-- Step (3): the dispatch check with IME = 1, and the latch cleared (rules R400 and R429). -/
def State.imeTurn (s : State) : State :=
  if s.cpu.ime then
    let s1 := s.dispatchCheck
    { s1 with cpu := { s1.cpu with imePending := false } }
  else s

/-- Step (4): the latch moves into IME (rules R400 and R429). -/
def State.latchTurn (s : State) : State :=
  if s.cpu.imePending then { s with cpu := { s.cpu with ime := true, imePending := false } } else s

/-- Steps (3) and (4) of rule R400. -/
def State.finishStep (s : State) : State := s.imeTurn.latchTurn

/-! ## The halted step -/

/-- A halted CPU wakes once any request bit is set (rule R432). -/
def State.wake (s : State) : State := if s.irq.req ≠ 0 then { s with cpu := { s.cpu with halted := false } } else s

/-- Step (1): one M-cycle, then the wake test (rules R400 and R432). -/
def State.haltedStep (s : State) : State := (State.advance 1 s).wake

/-! ## The environment's turn -/

/-- The request bits the environment sets at one step boundary: 3 Serial, 4 Joypad (rule R408). -/
def ExtRequest.bits (r : ExtRequest) : BitVec 5 :=
  (if r.serial then 0b01000 else 0) ||| (if r.joypad then 0b10000 else 0)

/-- What the environment does at this step boundary: what the list says of it, else the free values (rules R6 P7 and
R408; log entry 7). -/
def State.extRequest (s : State) : ExtRequest :=
  match s.extRequests with
  | [] => { serial := Config.extSerial s.extTurns, joypad := Config.extJoypad s.extTurns }
  | r :: _ => r

/-- The environment's turn before a step, which only sets bits of IF (rule R408; log entries 7 and 18). -/
def State.extTurn (s : State) : State :=
  { s with
    irq := { s.irq with req := s.irq.req ||| s.extRequest.bits }
    extTurns := s.extTurns + 1
    extRequests := s.extRequests.tail }

/-! ## Fetch -/

/-- `imm8()`: the byte at PC, and PC moved past it (rules R8 and R24). -/
def State.imm8 (s : State) : Byte × State := (s.busRead s.cpu.pc, (s.noteRead s.cpu.pc).setPc (s.cpu.pc + 1))

/-- The bytes of one instruction, fetched in ascending order: the opcode, then as many as it needs (rules R130, R139,
R401). Bytes past the last one fetched are 0 and not looked at. -/
def State.fetch (s : State) : (Byte × Byte × Byte) × State :=
  let f0 := s.imm8
  if fetchLength f0.1 = 1 then ((f0.1, 0, 0), f0.2)
  else
    let f1 := f0.2.imm8
    if fetchLength f0.1 = 2 then ((f0.1, f1.1, 0), f1.2)
    else
      let f2 := f1.2.imm8
      ((f0.1, f1.1, f2.1), f2.2)

/-- The instruction at PC and the state its operation runs in: PC past it (rules R24, R139, R401). -/
def State.fetchInstr (s : State) : Instr × State :=
  let f := s.fetch
  (decodeBytes f.1.1 f.1.2.1 f.1.2.2, f.2)

/-- The rest of a step after the instruction: its cost is advanced, then steps (3) and (4); "Fatal, ending the step at
once with nothing advanced" (rules R400 and R421). -/
def State.afterInstr (s : State) : State :=
  if s.cpu.fatal.isSome then s else (State.advance s.mcycles { s with mcycles := 0 }).finishStep

/-! ## Placing an instruction -/

/-- A byte placed where the bus reads it at address `a`, if the address is backed by something that can hold it. -/
def State.placeByte (s : State) (a : Word) (v : Byte) : Option State :=
  match region a, s.cart with
  | .rom, .romOnly rom => some { s with cart := .romOnly (sparseInsert rom a.toNat v) }
  | .vram, _ => some (s.storeByte a.toNat v)
  | .wram, _ => some (s.storeByte a.toNat v)
  | .hram, _ => some (s.storeByte a.toNat v)
  | .oam, _ => if s.oamBlocked then none else some (s.storeByte a.toNat v)
  | .ie, _ => some { s with irq := { s.irq with enable := v } }
  | _, _ => none

/-- Three bytes placed from PC on. -/
def State.placeAtPc (s : State) (b : Byte × Byte × Byte) : Option State :=
  ((s.placeByte s.cpu.pc b.1).bind fun s1 => s1.placeByte (s.cpu.pc + 1) b.2.1).bind fun s2 =>
    s2.placeByte (s.cpu.pc + 2) b.2.2

/-- The state with an instruction's bytes where the next step fetches: at PC, the CPU neither halted nor fatal; where
PC's addresses hold no such byte, a ROM-only cartridge with the bytes at 0x0100 and PC there (log entries 2 and 21). -/
def State.placeInstr (s : State) (b : Byte × Byte × Byte) : State :=
  let s1 := { s with cpu := { s.cpu with halted := false, fatal := none } }
  match s1.placeAtPc b with
  | some s2 => s2
  | none =>
    { s1 with
      cart := .romOnly [(0x0100, b.1), (0x0101, b.2.1), (0x0102, b.2.2)]
      cpu := { s1.cpu with pc := 0x0100 } }

end Sys2Proof.Machine
end

