-- ==== Sys2Proof/Machine/Cycle.lean ====
section
/-! DEFINITION. One step of the machine put together (rule R400 of spec/50_step_scheduler.md). -/

namespace Sys2Proof.Machine

/-- Step (2): fetch, execute, and what follows the instruction (rules R400 and R401). -/
def State.instrStep (s : State) : Result :=
  match exec s.fetchInstr.1 s.fetchInstr.2 with
  | .next t => .next t.afterInstr
  | .fault r => .fault r
  | .refused r => .refused r

/-- `Step` after the environment's turn: steps (1) to (4) of rule R400. -/
def State.cpuStep (s : State) : Result :=
  if s.cpu.halted then .next s.haltedStep.finishStep else s.instrStep

/-- One step, none from a fatal state (rules R400, R408, R421). -/
def State.stepOnce (s : State) : Result :=
  match s.cpu.fatal with
  | some r => .fault r.fault
  | none => s.extTurn.cpuStep

end Sys2Proof.Machine
end

