-- ==== Sys2Proof/Machine/Step.lean ====
section
/-! DEFINITION. The machine's step, and the state that runs a given instruction next. -/

namespace Sys2Proof.Machine

/-- `Step` (rule R400 of spec/50_step_scheduler.md). -/
def step (s : State) : Host.Outcome State Fault Refusal := s.stepOnce

/-- `s` with the instruction whose table bits are `w`, padded with zeros, where the next step fetches (log entries 1
and 2). -/
def State.withFetchWord (s : State) (nbits w : Nat) : State := s.placeInstr (tableBytes nbits w)

end Sys2Proof.Machine
end

