-- ==== Sys2Proof/Safety.lean ====
section
/-! DEFINITION. What counts as a well-kept state and a safe run, in the terms the claims use. Every part of the
invariant is read from a rule; Laws and Certificates show that reset has it and that a step keeps it. -/

namespace Sys2Proof.Machine

/-! ## Canonical storage -/

/-- The bus addresses of VRAM, WRAM, OAM and HRAM (rules R59 to R62). -/
def isMemAddr (n : Nat) : Bool :=
  (decide (0x8000 ≤ n) && decide (n < 0xA000)) || (decide (0xC000 ≤ n) && decide (n < 0xE000)) ||
    (decide (0xFE00 ≤ n) && decide (n < 0xFEA0)) || (decide (0xFF80 ≤ n) && decide (n < 0xFFFF))

/-- Memory lists rising addresses of VRAM, WRAM, OAM and HRAM only. -/
def Memory.canonical (m : Memory) : Bool := m.wf && m.all fun c => isMemAddr c.1

/-- A cartridge image lists rising addresses below 0x8000 only (rule R84). -/
def Cart.canonical : Cart → Bool
  | .romOnly rom => rom.wf && rom.all fun c => decide (c.1 < 0x8000)
  | .external _ => true

/-- A frame buffer lists rising pixel numbers of the 160 by 144 display only (rule R63). -/
def FrameBuf.canonical (fb : FrameBuf) : Bool := sparseWf fb && fb.all fun c => decide (c.1 < 160 * 144)

/-- All storage is in its canonical form, so equal contents written are equal data. -/
structure State.StoreOk (s : State) : Prop where
  mem : s.mem.canonical = true
  cart : s.cart.canonical = true
  framebuf : s.framebuf.canonical = true
  frames : ∀ fb ∈ s.frames, FrameBuf.canonical fb = true

/-! ## Lines and modes -/

/-- The position of the PPU in its lines and frames, by the cycle counter: "A frame is 154 lines of 456 dots, 70224
dots" and one frame is emitted per 70224 ticks (rules R500, R514, R523). -/
structure State.ClockOk (s : State) : Prop where
  dot : s.ppu.lineDot < 456
  line : s.ppu.ly.toNat < 154
  position : s.cycles = s.frames.length * 70224 + s.ppu.ly.toNat * 456 + s.ppu.lineDot

/-- Which dots and lines each mode takes: "mode = OamScan implies LY < 144 and line_dot < 80; mode = VBlank iff
144 ≤ LY ≤ 153"; Draw is dots 80 to 304 at most (rules R500, R505, R523, R524). -/
def State.ModeOk (s : State) : Prop :=
  match s.ppu.mode with
  | .oamScan => s.ppu.ly.toNat < 144 ∧ s.ppu.lineDot < 80
  | .draw => s.ppu.ly.toNat < 144 ∧ 80 ≤ s.ppu.lineDot ∧ s.ppu.lineDot ≤ 304
  | .hblank => s.ppu.ly.toNat < 144 ∧ 296 ≤ s.ppu.lineDot
  | .vblank => 144 ≤ s.ppu.ly.toNat

/-! ## The schedule of a drawn line -/

/-- Fetcher steps done before dot `d` of a line whose Draw began at dot 80: one per even dot (rules R504 and R542). -/
def drawSteps (d : Nat) : Nat := (d - 79) / 2

/-- The fetcher's phase before dot `d` (rules R540 and R557). -/
def drawPhase (d : Nat) : Phase :=
  if drawSteps d % 5 = 0 then .fetchTileId
  else if drawSteps d % 5 = 1 then .fetchDataHigh
  else if drawSteps d % 5 = 2 then .fetchDataLow
  else if drawSteps d % 5 = 3 then .sleep
  else .push

/-- Pixels dequeued before dot `d`: eight in every ten dots from dot 98 on (rules R505 and R557). -/
def drawPops (d : Nat) : Nat := 8 * ((d - 98) / 10) + min ((d - 98) % 10) 8

/-- Where the fetcher, the FIFO and the pusher stand in a Draw dot, and the FIFO's and the lists' bounds (rules R55 to
R58, R524, R556, R557). Outside Draw the FIFO is empty (rule R58). -/
structure State.FetchOk (s : State) : Prop where
  sprites : s.ppu.lineSprites.length ≤ 10
  picked : s.fetcher.fetched.length ≤ 3
  idle : s.ppu.mode ≠ .draw → s.fetcher.fifo = []
  phase : s.ppu.mode = .draw → s.fetcher.phase = drawPhase s.ppu.lineDot
  fetchX : s.ppu.mode = .draw → s.fetcher.fetchX = 8 * ((drawSteps s.ppu.lineDot + 4) / 5)
  fifoX : s.ppu.mode = .draw → s.fetcher.fifoX = 8 * (drawSteps s.ppu.lineDot / 5)
  lineX : s.ppu.mode = .draw → s.fetcher.lineX = drawPops s.ppu.lineDot
  fifo : s.ppu.mode = .draw → s.fetcher.fifo.length + s.fetcher.lineX = s.fetcher.fifoX
  pushed : s.ppu.mode = .draw → s.fetcher.pushedX < 160 ∧ s.fetcher.pushedX ≤ s.fetcher.lineX ∧
    s.fetcher.lineX ≤ s.fetcher.pushedX + 7

/-! ## The DMA controller -/

/-- The progress counters of the controller by its state (rules R37 to R39, R482). -/
def State.DmaOk (s : State) : Prop :=
  match s.dma.state with
  | .idle => s.dma.index ≤ 160
  | .startDelay => 1 ≤ s.dma.delay ∧ s.dma.delay ≤ 2 ∧ s.dma.index = 0
  | .transfer => s.dma.index < 160

/-! ## The invariant -/

/-- What every state between two steps keeps. `cost`: the cost of an instruction is spent inside its step (log entry 14). -/
structure State.Inv (s : State) : Prop where
  store : s.StoreOk
  clock : s.ClockOk
  mode : s.ModeOk
  fetch : s.FetchOk
  dma : s.DmaOk
  cost : s.mcycles = 0

/-! ## What an instruction may change, by its shape -/

/-- The eight registers a program reads and writes, and PC apart (rules R20, R23). -/
inductive CpuReg where
  | a | b | c | d | e | h | l | sp
  deriving DecidableEq, Repr

/-- The value of a register, in 16 bits. -/
def Cpu.get (c : Cpu) : CpuReg → Word
  | .a => Byte.zext c.a | .b => Byte.zext c.b | .c => Byte.zext c.c | .d => Byte.zext c.d | .e => Byte.zext c.e
  | .h => Byte.zext c.h | .l => Byte.zext c.l | .sp => c.sp

/-- The register an 8-bit operand names. -/
def regOf : Reg8 → CpuReg
  | .a => .a | .b => .b | .c => .c | .d => .d | .e => .e | .h => .h | .l => .l

/-- The registers a pair of table `rp` is made of (rules R21 and R133). -/
def pairRegs : Pair → List CpuReg
  | .bc => [.b, .c] | .de => [.d, .e] | .hl => [.h, .l] | .sp => [.sp]

/-- The registers a pair of table `rp2` is made of, F apart (rules R21 and R134). -/
def stackPairRegs : StackPair → List CpuReg
  | .bc => [.b, .c] | .de => [.d, .e] | .hl => [.h, .l] | .af => [.a]

/-- The register an operand in place names, none for the byte at HL. -/
def locRegs : Loc8 → List CpuReg
  | .reg r => [regOf r]
  | .mem => []

/-- The register an ALU operation writes: A, none for `CP` (rule R257). -/
def aluRegs : AluOp → List CpuReg
  | .add | .adc | .sub | .sbc | .and | .xor | .or => [.a]
  | .cp => []

/-- The registers an instruction may write: its destination, HL where it is stepped, SP where the stack is used (the
"Operation" entries of rules R200 to R377). F, PC, IME and the latches are not among them. -/
def destRegs : Shape → List CpuReg
  | .nop | .halt | .stop | .di | .ei | .illegal _ => []
  | .ldRegReg r _ | .ldRegImm r _ | .ldRegHl r | .incReg r | .decReg r => [regOf r]
  | .ldHlReg _ | .ldHlImm _ | .ldIndA _ | .ldAbsA _ | .ldhStoreA _ | .ldHighCA | .ldAbsSp _ => []
  | .ldAInd _ | .ldAAbs _ | .ldhA _ | .ldAHighC => [.a]
  | .ldAHlStep _ => [.a, .h, .l]
  | .ldHlStepA _ => [.h, .l]
  | .ldPairImm p _ | .incPair p | .decPair p => pairRegs p
  | .ldSpHl | .push _ | .addSp _ => [.sp]
  | .ldHlSpE8 _ | .addHl _ => [.h, .l]
  | .pop p => .sp :: stackPairRegs p
  | .alu op _ => aluRegs op
  | .daa | .cpl | .rotA _ => [.a]
  | .incMem | .decMem | .scf | .ccf | .bit _ _ => []
  | .rot _ o | .res _ o | .setBit _ o => locRegs o
  | .jp _ | .jpCond _ _ | .jpHl | .jr _ | .jrCond _ _ => []
  | .call _ | .callCond _ _ | .ret | .retCond _ | .reti | .rst _ => [.sp]

/-- The flags a `POP` may change: all for AF, else none (rules R236 and R237). -/
def popFlags : StackPair → Bool × Bool × Bool × Bool
  | .af => (true, true, true, true)
  | .bc | .de | .hl => (false, false, false, false)

/-- The flags an instruction may change: Z, N, H, C in this order (rule R268). -/
def flagWrites : Shape → Bool × Bool × Bool × Bool
  | .alu _ _ | .rotA _ | .rot _ _ | .addSp _ | .ldHlSpE8 _ => (true, true, true, true)
  | .incReg _ | .incMem | .decReg _ | .decMem | .bit _ _ => (true, true, true, false)
  | .daa => (true, false, true, true)
  | .cpl => (false, true, true, false)
  | .scf | .ccf | .addHl _ => (false, true, true, true)
  | .pop p => popFlags p
  | .nop | .halt | .stop | .di | .ei | .illegal _ | .ldRegReg _ _ | .ldRegImm _ _ | .ldRegHl _ | .ldHlReg _
  | .ldHlImm _ | .ldAInd _ | .ldIndA _ | .ldAHlStep _ | .ldHlStepA _ | .ldAAbs _ | .ldAbsA _ | .ldhA _
  | .ldhStoreA _ | .ldAHighC | .ldHighCA | .ldPairImm _ _ | .ldAbsSp _ | .ldSpHl | .push _ | .incPair _ | .decPair _
  | .res _ _ | .setBit _ _ | .jp _ | .jpCond _ _ | .jpHl | .jr _ | .jrCond _ _ | .call _ | .callCond _ _ | .ret
  | .retCond _ | .reti | .rst _ => (false, false, false, false)

/-- The two bytes a push stores to, with the expression `push16` uses (rule R238). -/
def pushAddrs (s : State) : List Word := [s.cpu.sp - 1, s.cpu.sp - 1 - 1]

/-- The address an operand in place is stored to, none for a register (rule R309). -/
def locAddrs : Loc8 → State → List Word
  | .reg _, _ => []
  | .mem, s => [s.cpu.hl]

/-- The addresses an instruction stores to, computed as its operation computes them (rules R203 to R377). -/
def storeAddrs (sh : Shape) (s : State) : List Word :=
  match sh with
  | .ldHlReg _ | .ldHlImm _ | .ldHlStepA _ | .incMem | .decMem => [s.cpu.hl]
  | .rot _ o | .res _ o | .setBit _ o => locAddrs o s
  | .ldIndA p => [s.cpu.indAddr p]
  | .ldAbsA a => [a]
  | .ldAbsSp a => [a, a + 1]
  | .ldhStoreA n => [highAddr n]
  | .ldHighCA => [highAddr s.cpu.c]
  | .push _ | .call _ | .rst _ => pushAddrs s
  | .callCond cc _ => if condHolds s.cpu.f cc then pushAddrs s else []
  | .nop | .halt | .stop | .di | .ei | .illegal _ | .ldRegReg _ _ | .ldRegImm _ _ | .ldRegHl _ | .ldAInd _
  | .ldAHlStep _ | .ldAAbs _ | .ldhA _ | .ldAHighC | .ldPairImm _ _ | .ldSpHl | .ldHlSpE8 _ | .pop _ | .alu _ _
  | .incReg _ | .decReg _ | .daa | .cpl | .scf | .ccf | .addHl _ | .incPair _ | .decPair _ | .addSp _ | .rotA _
  | .bit _ _ | .jp _ | .jpCond _ _ | .jpHl | .jr _ | .jrCond _ _ | .ret | .retCond _ | .reti => []

/-- Answers of `EXT` an ALU operand takes. -/
def srcAnswers (s : State) : Src8 → Nat
  | .mem => extAnswers s.cpu.hl
  | .reg _ => 0
  | .imm _ => 0

/-- The bytes of an ALU operation by operand form, `yyy` its index: `10 yyy zzz`, `10 yyy 110`, `11 yyy 110` then d8
(rule R249). -/
def aluBytes (op : AluOp) : Src8 → List Byte
  | .reg r => [(2 : BitVec 2) ++ op.code ++ r.code]
  | .mem => [(2 : BitVec 2) ++ op.code ++ (6 : BitVec 3)]
  | .imm n => [(3 : BitVec 2) ++ op.code ++ (6 : BitVec 3), n]

/-! ## Number forms the claims use -/

/-- The two decimal digits of a BCD byte as a number. -/
def bcdValue (b : Byte) : Nat := b.toNat / 16 * 10 + b.toNat % 16

/-- Both nibbles are decimal digits. -/
def isBcd (b : Byte) : Prop := b.toNat / 16 ≤ 9 ∧ b.toNat % 16 ≤ 9

/-- The rotates and shifts on numbers: result and bit shifted out (rules R310 to R317). -/
def rotValue (op : RotOp) (v cin : Nat) : Nat × Bool :=
  match op with
  | .rlc => (v * 2 % 256 + v / 128, decide (128 ≤ v))
  | .rrc => (v / 2 + v % 2 * 128, decide (v % 2 = 1))
  | .rl => (v * 2 % 256 + cin, decide (128 ≤ v))
  | .rr => (v / 2 + cin * 128, decide (v % 2 = 1))
  | .sla => (v * 2 % 256, decide (128 ≤ v))
  | .sra => (v / 2 + v / 128 * 128, decide (v % 2 = 1))
  | .swap => (v % 16 * 16 + v / 16, false)
  | .srl => (v / 2, decide (v % 2 = 1))

/-- The prefixed rotate an accumulator rotate resembles (rules R300 to R303). -/
def accRot : AccRotOp → RotOp
  | .rlc => .rlc | .rrc => .rrc | .rl => .rl | .rr => .rr

/-! ## Runs -/

/-- The state after `n` steps, if all of them have a next state. -/
def State.after : Nat → State → Option State
  | 0, s => some s
  | n + 1, s =>
    match step s with
    | .next t => State.after n t
    | .fault _ => none
    | .refused _ => none

/-- A run of `n` steps is safe if no step of it meets the fatal latch: "A model must treat a fatal state as a fault:
never as a final state" (rule R421). -/
def State.SafeFor (n : Nat) (s : State) : Prop := ∃ t, State.after n s = some t ∧ t.cpu.fatal = none

end Sys2Proof.Machine
end

