-- ==== Sys2Proof/Certificates/Slice0/Obligations.lean ====
section
/-! DEFINITION. The statements about the model, from the numbered rules of spec/. OBLIGATIONS.json lists them in this order. -/

open Sys2Proof Sys2Proof.Machine

/-! ## Decoding -/

/-- Words written out from the encodings of rules R140 and R141, one per family, decode to the instructions they stand
for. -/
def Obligations.DecodeWords : Prop :=
  decode [0b01_000_001] = .ok (.ldBC, []) ∧
  decode [0b00_000_110, 0x9C] = .ok (.ldBD8 0x9C, []) ∧
  decode [0b00_100_001, 0xCD, 0xAB] = .ok (.ldHlD16 0xABCD, []) ∧
  decode [0b11_110_101] = .ok (.pushAf, []) ∧
  decode [0b10_011_110] = .ok (.sbcAMemHl, []) ∧
  decode [0b00_111_001] = .ok (.addHlSp, []) ∧
  decode [0xCB, 0b00_111_110] = .ok (.srlMemHl, []) ∧
  decode [0xCB, 0b01_100_101] = .ok (.bit4L, []) ∧
  decode [0b00_011_000, 0xFE] = .ok (.jrE8 0xFE, []) ∧
  decode [0b11_010_100, 0x34, 0x12] = .ok (.callNcA16 0x1234, []) ∧
  decode [0b01_110_110] = .ok (.halt, []) ∧
  decode [0b11_010_011] = .ok (.illegalD3, [])

/-- Every instruction, with every operand, decodes from its encoding, and the bytes after it are left. -/
def Obligations.DecodeEncode : Prop :=
  ∀ (i : Instr) (rest : List Byte), decode (encode i ++ rest) = .ok (i, rest)

/-- What decodes to an instruction other than STOP is that instruction's encoding and nothing else: no two words of a
length share a meaning that the encoder does not know. -/
def Obligations.EncodeDecode : Prop :=
  ∀ (bytes rest : List Byte) (i : Instr), decode bytes = .ok (i, rest) → i ≠ .stop → bytes = encode i ++ rest

/-- Decoding is total: three bytes always begin with an instruction, an undefined one exactly when the first byte is one
of the eleven undefined opcodes. -/
def Obligations.DecodeTotal : Prop :=
  ∀ (b0 b1 b2 : Byte) (rest : List Byte), ∃ i,
    decode (b0 :: b1 :: b2 :: rest) = .ok (i, (b1 :: b2 :: rest).drop (opLength b0 - 1)) ∧
    (i.wellFormed = false ↔
      b0 ∈ ([0xD3, 0xDB, 0xDD, 0xE3, 0xE4, 0xEB, 0xEC, 0xED, 0xF4, 0xFC, 0xFD] : List Byte))

/-! ## The step -/

/-- A step of a CPU that is neither halted nor fatal runs the instruction its bytes decode to. `e` is the state after the
environment's turn; the bytes are read in order, each read counted for the oracle; PC is moved past the bytes fetched;
if the instruction raised Fatal the step ends there, else its cost is advanced and the dispatch check and the latch
follow. The count `extReads`, the cost's place `mcycles` and the environment's turn at the start of the step are the
model's choices (log entries 6, 14, 7 and 18). -/
def Obligations.StepRunsDecoded : Prop :=
  ∀ (s : State) (i : Instr) (rest : List Byte), s.cpu.fatal = none → s.cpu.halted = false →
    let e := s.extTurn
    let pc := e.cpu.pc
    let b0 := e.busRead pc
    let b1 := (e.noteRead pc).busRead (pc + 1)
    let b2 := ((e.noteRead pc).noteRead (pc + 1)).busRead (pc + 2)
    let answers := extAnswers pc + (if 2 ≤ fetchLength b0 then extAnswers (pc + 1) else 0) +
      (if 3 ≤ fetchLength b0 then extAnswers (pc + 2) else 0)
    let f := { e with
      cpu := { e.cpu with pc := pc + BitVec.ofNat 16 (fetchLength b0) }, extReads := e.extReads + answers }
    decode [b0, b1, b2] = .ok (i, rest) →
    step s = match exec i f with
      | .next t =>
        .next (if t.cpu.fatal.isSome then t
          else (State.advance t.mcycles { t with mcycles := 0 }).imeTurn.latchTurn)
      | .fault r => .fault r
      | .refused r => .refused r

/-- A halted step advances one M-cycle, wakes once any request bit is set whatever IE and IME hold (rule R432), then makes
the dispatch check with IME = 1 and moves the latch (rule R400). The environment's turn at the start of the step is the
model's choice (rule R408; log entries 7 and 18). -/
def Obligations.HaltedStep : Prop :=
  ∀ s : State, s.cpu.fatal = none → s.cpu.halted = true →
    let t := State.advance 1 s.extTurn
    let w := { t with cpu := { t.cpu with halted := decide (t.irq.req = 0) && t.cpu.halted } }
    step s = .next w.imeTurn.latchTurn

/-- A state whose latch is set has no further step. -/
def Obligations.FatalStops : Prop :=
  (∀ (s : State) (op : Byte) (pc : Word), s.cpu.fatal = some (.illegalOpcode op pc) →
    step s = .fault (.illegalOpcode op pc)) ∧
  (∀ (s : State) (pc : Word), s.cpu.fatal = some (.stopUnmodelled pc) → step s = .fault (.stopUnmodelled pc))

/-- Every state that is not fatal has a next step; it advances 4 to 44 T-cycles, in whole M-cycles, unless it ends in
Fatal, which advances none. -/
def Obligations.StepTime : Prop :=
  ∀ s : State, s.cpu.fatal = none → ∃ t, step s = .next t ∧
    (t.cpu.fatal = none → ∃ m, 1 ≤ m ∧ m ≤ 11 ∧ t.cycles = s.cycles + 4 * m) ∧
    (t.cpu.fatal ≠ none → t.cycles = s.cycles)

/-- `Advance(m)`: m M-cycles, each four times the cycle counter, the Timer and the PPU, then the DMA controller. -/
def Obligations.AdvanceOrder : Prop :=
  (∀ s : State, State.advance 0 s = s) ∧
  (∀ (m : Nat) (s : State),
    let t (x : State) : State := ({ x with cycles := x.cycles + 1 }.timerTick).ppuTick
    State.advance (m + 1) s = State.advance m (t (t (t (t s)))).dmaTick) ∧
  (∀ (m : Nat) (s : State), (State.advance m s).cycles = s.cycles + 4 * m)

/-- Ticks and bus writes change no CPU register. -/
def Obligations.TicksKeepCpu : Prop :=
  (∀ s : State, s.timerTick.cpu = s.cpu ∧ s.ppuTick.cpu = s.cpu ∧ s.dmaTick.cpu = s.cpu) ∧
  (∀ (m : Nat) (s : State), (State.advance m s).cpu = s.cpu) ∧
  (∀ (s : State) (a : Word) (v : Byte), (s.busWrite a v).cpu = s.cpu)

/-- The environment's turn sets IF bits 3 and 4 at most and touches nothing else of the block: what the list says of this
turn, else the free values at its number. That it stands in a list and a count is the model's choice (log entry 7). -/
def Obligations.EnvironmentTurn : Prop :=
  ∀ s : State, s.extTurn =
    { s with
      irq := { s.irq with req := s.irq.req |||
        ((if (s.extRequests.head?.map ExtRequest.serial).getD (Config.extSerial s.extTurns) then 8 else 0) |||
          (if (s.extRequests.head?.map ExtRequest.joypad).getD (Config.extJoypad s.extTurns) then 16 else 0)) }
      extTurns := s.extTurns + 1
      extRequests := s.extRequests.tail }

/-! ## Interrupts -/

/-- Dispatch takes the requested and enabled source with the least bit number: PC is pushed, PC becomes the vector, IME
and `halted` are cleared, the bit taken is cleared and the others stay, and 5 M-cycles are advanced. -/
def Obligations.DispatchTakesLeast : Prop :=
  ∀ (s : State) (i : Nat), i < 5 → s.irq.req.getLsbD i = true → s.irq.enable.getLsbD i = true →
    (∀ j, j < i → ¬ (s.irq.req.getLsbD j = true ∧ s.irq.enable.getLsbD j = true)) →
    ∃ t : State, s.dispatchCheck = State.advance 5 t ∧
      t.cpu = { s.cpu with sp := s.cpu.sp - 2, pc := BitVec.ofNat 16 (0x40 + 8 * i), ime := false, halted := false } ∧
      t.irq.enable = (s.push16 s.cpu.pc).irq.enable ∧
      (∀ j, j < 5 → t.irq.req.getLsbD j = ((s.push16 s.cpu.pc).irq.req.getLsbD j && decide (j ≠ i))) ∧
      { t with cpu := s.cpu, irq := s.irq } = { s.push16 s.cpu.pc with cpu := s.cpu, irq := s.irq }

/-- With nothing requested and enabled the dispatch check does nothing, and with IME = 0 it is not made. -/
def Obligations.NoDispatch : Prop :=
  (∀ s : State, (∀ j, j < 5 → ¬ (s.irq.req.getLsbD j = true ∧ s.irq.enable.getLsbD j = true)) →
    s.dispatchCheck = s) ∧
  (∀ s : State, s.cpu.ime = false → s.imeTurn = s)

/-- The step of an EI with IME = 0 ends with IME = 1 and no dispatch, whatever is requested and enabled: PC is at the
next instruction, SP is where it was, and 4 T-cycles passed. The step of a DI, with any IME and latch, ends with both
clear and no dispatch. The opcode is read after the environment's turn, whose place is the model's choice (log
entries 7 and 18). -/
def Obligations.EiDiLatency : Prop :=
  (∀ s : State, s.cpu.fatal = none → s.cpu.halted = false → s.cpu.ime = false →
    s.extTurn.busRead s.cpu.pc = 0xFB →
    ∃ t, step s = .next t ∧
      t.cpu = { s.cpu with pc := s.cpu.pc + 1, ime := true, imePending := false } ∧ t.cycles = s.cycles + 4) ∧
  (∀ s : State, s.cpu.fatal = none → s.cpu.halted = false → s.extTurn.busRead s.cpu.pc = 0xF3 →
    ∃ t, step s = .next t ∧
      t.cpu = { s.cpu with pc := s.cpu.pc + 1, ime := false, imePending := false } ∧ t.cycles = s.cycles + 4)

/-! ## The timer -/

/-- One Timer tick: the divider counts; TIMA counts when the bit the rate selects falls while timing is enabled, and an
overflow reloads it from TMA and requests source 2. Nothing else changes. -/
def Obligations.TimerTick : Prop :=
  ∀ s : State,
    let bit := [9, 3, 5, 7].getD (s.timer.tac.toNat % 4) 0
    let d := s.timer.div16.toNat
    let edge := 4 ≤ s.timer.tac.toNat ∧ d / 2 ^ bit % 2 = 1 ∧ (d + 1) % 2 ^ 16 / 2 ^ bit % 2 = 0
    (¬ edge → s.timerTick = { s with timer := { s.timer with div16 := s.timer.div16 + 1 } }) ∧
    (edge → s.timer.tima ≠ 0xFF →
      s.timerTick = { s with timer := { s.timer with div16 := s.timer.div16 + 1, tima := s.timer.tima + 1 } }) ∧
    (edge → s.timer.tima = 0xFF →
      s.timerTick = { s with
        timer := { s.timer with div16 := s.timer.div16 + 1, tima := s.timer.tma }
        irq := { s.irq with req := s.irq.req ||| 0b00100 } })

/-- With timing enabled at a constant rate, n ticks from a divider value d make floor((d mod 2^(b+1) + n) / 2^(b+1))
increments of TIMA, b the bit of the rate, as long as they do not overflow it; with timing disabled any number of ticks
changes the divider only. -/
def Obligations.TimerRate : Prop :=
  (∀ (s : State) (n : Nat), 4 ≤ s.timer.tac.toNat →
    let period := 2 ^ ([9, 3, 5, 7].getD (s.timer.tac.toNat % 4) 0 + 1)
    let k := (s.timer.div16.toNat % period + n) / period
    s.timer.tima.toNat + k < 256 →
    (State.timerTick)^[n] s =
      { s with timer := { s.timer with
        div16 := s.timer.div16 + BitVec.ofNat 16 n, tima := s.timer.tima + BitVec.ofNat 8 k } }) ∧
  (∀ (s : State) (n : Nat), s.timer.tac.toNat < 4 →
    (State.timerTick)^[n] s = { s with timer := { s.timer with div16 := s.timer.div16 + BitVec.ofNat 16 n } })

/-! ## OAM DMA -/

/-- One DMA tick by state: nothing in Idle; the delay counted down in StartDelay, nothing copied; one byte copied in
Transfer, from the bus into OAM. From its trigger a transfer is busy for exactly 162 ticks, two of them delay. The count
`extReads` is the model's choice (log entry 6). -/
def Obligations.DmaTick : Prop :=
  (∀ s : State, s.dma.state = .idle → s.dmaTick = s) ∧
  (∀ s : State, s.dma.state = .startDelay →
    s.dmaTick = { s with dma := { s.dma with
      delay := s.dma.delay - 1, state := if s.dma.delay ≤ 1 then .transfer else .startDelay } }) ∧
  (∀ s : State, s.dma.state = .transfer → s.dma.index < 160 →
    let a : Word := BitVec.ofNat 16 (s.dma.page.toNat * 256 + s.dma.index)
    s.dmaTick = { s with
      mem := sparseInsert s.mem (0xFE00 + s.dma.index) (s.busRead a)
      extReads := s.extReads + extAnswers a
      dma := { s.dma with index := s.dma.index + 1, state := if s.dma.index = 159 then .idle else .transfer } }) ∧
  (∀ (s : State) (page : Byte),
    ((State.dmaTick)^[2] (s.busWrite 0xFF46 page)).dma.state = .transfer ∧
    ((State.dmaTick)^[161] (s.busWrite 0xFF46 page)).dma.state = .transfer ∧
    ((State.dmaTick)^[162] (s.busWrite 0xFF46 page)).dma.state = .idle)

/-- A write to 0xFF46 followed by 162 DMA ticks leaves the controller idle with 160 bytes copied, and, for a source page
below 0xFE, OAM holds the 160 bytes the bus gave at the source before. -/
def Obligations.DmaTransfer : Prop :=
  ∀ (s : State) (page : Byte),
    let t := (State.dmaTick)^[162] (s.busWrite 0xFF46 page)
    t.dma = { state := .idle, delay := 0, index := 160, page := page } ∧
    (page.toNat < 0xFE → ∀ i, i < 160 →
      t.mem.byteAt (0xFE00 + i) = s.busRead (BitVec.ofNat 16 (page.toNat * 256 + i))) ∧
    (∀ n, ¬ (0xFE00 ≤ n ∧ n < 0xFEA0) → t.mem.byteAt n = s.mem.byteAt n)

/-- While the controller is in Transfer every bus read of OAM gives 0xFF and every bus write there is dropped; in the
other states OAM reads what is stored and stores what is written. -/
def Obligations.OamBlocking : Prop :=
  ∀ (s : State) (a : Word) (v : Byte), 0xFE00 ≤ a.toNat → a.toNat < 0xFEA0 →
    (s.dma.state = .transfer → s.busRead a = 0xFF ∧ s.busWrite a v = s) ∧
    (s.dma.state ≠ .transfer → s.busRead a = s.mem.byteAt a.toNat ∧ (s.busWrite a v).busRead a = v)

/-! ## The PPU -/

/-- A dot that does not end a line changes neither LY nor the list of frames, and counts one dot; a dot that ends a line
goes to dot 0 of the next line, and after line 153 to line 0 with the frame emitted. -/
def Obligations.LineEnds : Prop :=
  ∀ s : State, s.ClockOk → s.ModeOk →
    (s.ppu.lineDot < 455 →
      s.ppuTick.ppu.ly = s.ppu.ly ∧ s.ppuTick.frames = s.frames ∧ s.ppuTick.ppu.lineDot = s.ppu.lineDot + 1) ∧
    (s.ppu.lineDot = 455 → s.ppu.ly.toNat < 153 →
      s.ppuTick.ppu.ly = s.ppu.ly + 1 ∧ s.ppuTick.frames = s.frames ∧ s.ppuTick.ppu.lineDot = 0) ∧
    (s.ppu.lineDot = 455 → s.ppu.ly.toNat = 153 →
      s.ppuTick.ppu.ly = 0 ∧ s.ppuTick.frames = s.frames ++ [s.framebuf] ∧ s.ppuTick.ppu.lineDot = 0 ∧
      s.ppuTick.ppu.mode = .oamScan ∧ s.ppuTick.ppu.windowLine = 0)

/-- The requests of a line end in HBlank: VBlank at the end of line 143 and there only; LCDSTAT for the LYC match of the
new line if STAT bit 6 is set, and for VBlank if STAT bit 4 is set; the mode becomes VBlank after line 143, else OamScan. -/
def Obligations.VBlankEntry : Prop :=
  ∀ s : State, s.ppu.mode = .hblank → s.ppu.lineDot = 455 → s.ppu.ly.toNat < 144 →
    let vb := s.ppu.ly.toNat = 143
    let lyc := s.ppu.ly + 1 = s.ppu.lyc
    s.ppuTick.ppu.mode = (if vb then .vblank else .oamScan) ∧
    s.ppuTick.ppu.lycFlag = decide lyc ∧
    s.ppuTick.irq.enable = s.irq.enable ∧
    s.ppuTick.irq.req = s.irq.req ||| (if vb then 0b00001 else 0) |||
      (if (lyc ∧ s.ppu.statSel.getLsbD 3 = true) ∨ (vb ∧ s.ppu.statSel.getLsbD 1 = true) then 0b00010 else 0)

/-- Sprite selection: at dot 79 of OamScan the line's sprites become the first ten OAM entries, in OAM order, whose rows
cover the line, sorted by ascending x, entries with equal x in OAM order; the mode becomes Draw. -/
def Obligations.SpriteSelection : Prop :=
  ∀ s : State, s.ppu.mode = .oamScan → s.ppu.lineDot = 79 →
    let h := if s.ppu.lcdc.getLsbD 2 then 16 else 8
    let entry (i : Nat) : OamEntry :=
      { y := s.mem.byteAt (0xFE00 + 4 * i), x := s.mem.byteAt (0xFE01 + 4 * i),
        tile := s.mem.byteAt (0xFE02 + 4 * i), attr := s.mem.byteAt (0xFE03 + 4 * i) }
    let chosen := (((List.range 40).map entry).filter fun e =>
      decide (e.y.toNat ≤ s.ppu.ly.toNat + 16) && decide (s.ppu.ly.toNat + 16 < e.y.toNat + h)).take 10
    let l := s.ppuTick.ppu.lineSprites
    s.ppuTick.ppu.mode = .draw ∧ l.length ≤ 10 ∧ l.Perm chosen ∧
    l.Pairwise (fun e g => e.x.toNat ≤ g.x.toNat) ∧
    (∀ x : Byte, l.filter (fun e => decide (e.x = x)) = chosen.filter fun e => decide (e.x = x))

/-- Draw ends at dot 304 at the latest, whatever SCX holds: from any kept state in Draw, a tick at dot 304 leaves Draw,
and a tick leaves it exactly when 160 pixels have been written. -/
def Obligations.DrawEnds : Prop :=
  ∀ s : State, s.ModeOk → s.FetchOk → s.ppu.mode = .draw →
    (s.ppu.lineDot = 304 → s.ppuTick.ppu.mode = .hblank) ∧
    (s.ppuTick.ppu.mode = .hblank ↔ s.ppuTick.fetcher.pushedX = 160) ∧
    (s.ppuTick.ppu.mode = .hblank → s.ppuTick.fetcher.fifo = [] ∧
      s.ppuTick.irq.req = s.irq.req ||| (if s.ppu.statSel.getLsbD 0 then 0b00010 else 0))

/-- A group pushed with no sprite enabled: pixel j has the colour index of bit 7 - j of the two plane bytes, 0 where LCDC
bit 0 is 0, and the shade the background palette gives that index. -/
def Obligations.PushBackground : Prop :=
  ∀ s : State, s.fetcher.phase = .push → s.fetcher.fifo.length ≤ 8 → s.ppu.lcdc.getLsbD 1 = false →
    ∃ shades : List (BitVec 2), shades.length = 8 ∧
      s.fetcherStep = { s with fetcher := { s.fetcher with
        fifo := s.fetcher.fifo ++ shades, fifoX := s.fetcher.fifoX + 8, phase := .fetchTileId } } ∧
      ∀ j, j < 8 →
        let idx := if s.ppu.lcdc.getLsbD 0 then
            (s.fetcher.bgwLo.getLsbD (7 - j)).toNat + 2 * (s.fetcher.bgwHi.getLsbD (7 - j)).toNat else 0
        (shades.getD j 0).toNat = s.ppu.bgp.toNat / 4 ^ idx % 4

/-- Sprites over the background in a pushed group: a picked sprite shows at pixel j where it covers it, its colour index
there is not 0 and it does not lose to a background index that is not 0; the first one in the picked order that shows
gives the shade through its palette, and if none shows the background's shade stays. -/
def Obligations.SpriteOverride : Prop :=
  ∀ (s : State) (j : Nat), s.fetcher.phase = .push → s.fetcher.fifo.length ≤ 8 → s.ppu.lcdc.getLsbD 1 = true → j < 8 →
    let idx := if s.ppu.lcdc.getLsbD 0 then
        (s.fetcher.bgwLo.getLsbD (7 - j)).toNat + 2 * (s.fetcher.bgwHi.getLsbD (7 - j)).toNat else 0
    let off (u : Fetched) : Int := s.fetcher.fifoX + j - (u.entry.x.toNat - 8 + (s.ppu.scx.toNat % 8 : Nat))
    let bit (u : Fetched) : Nat := if u.entry.attr.getLsbD 5 then (off u).toNat else (7 - off u).toNat
    let sidx (u : Fetched) : Nat := (u.lo.getLsbD (bit u)).toNat + 2 * (u.hi.getLsbD (bit u)).toNat
    let shows (u : Fetched) : Prop :=
      0 ≤ off u ∧ off u ≤ 7 ∧ sidx u ≠ 0 ∧ ¬ (u.entry.attr.getLsbD 7 = true ∧ idx ≠ 0)
    let shade := (s.fetcherStep.fetcher.fifo.getD (s.fetcher.fifo.length + j) 0).toNat
    (∀ before u after, s.fetcher.fetched = before ++ u :: after → (∀ v ∈ before, ¬ shows v) → shows u →
      shade = (if u.entry.attr.getLsbD 4 then s.ppu.obp1 else s.ppu.obp0).toNat / 4 ^ sidx u % 4) ∧
    ((∀ u ∈ s.fetcher.fetched, ¬ shows u) → shade = s.ppu.bgp.toNat / 4 ^ idx % 4)

/-- The pusher: with more than 8 entries it dequeues one; the pixel is dropped while fewer than SCX mod 8 were dequeued,
else written at (pushed_x, LY). With 8 or fewer it does nothing. -/
def Obligations.PusherStep : Prop :=
  (∀ s : State, s.fetcher.fifo.length ≤ 8 → s.pusherStep = s) ∧
  (∀ (s : State) (px : BitVec 2) (rest : List (BitVec 2)), s.fetcher.fifo = px :: rest → 8 ≤ rest.length →
    s.fetcher.lineX < s.ppu.scx.toNat % 8 →
    s.pusherStep = { s with fetcher := { s.fetcher with fifo := rest, lineX := s.fetcher.lineX + 1 } }) ∧
  (∀ (s : State) (px : BitVec 2) (rest : List (BitVec 2)), s.fetcher.fifo = px :: rest → 8 ≤ rest.length →
    s.ppu.scx.toNat % 8 ≤ s.fetcher.lineX → s.fetcher.pushedX < 160 → s.ppu.ly.toNat < 144 →
    s.pusherStep.framebuf.pixelAt (s.ppu.ly.toNat * 160 + s.fetcher.pushedX) = px ∧
    (∀ n, n ≠ s.ppu.ly.toNat * 160 + s.fetcher.pushedX → s.pusherStep.framebuf.pixelAt n = s.framebuf.pixelAt n) ∧
    { s.pusherStep with framebuf := s.framebuf } =
      { s with fetcher := { s.fetcher with
        fifo := rest, lineX := s.fetcher.lineX + 1, pushedX := s.fetcher.pushedX + 1 } })

/-- Tile fetch. With the window off and LCDC bit 4 = 0 (the signed tile area) a background group of a map byte `id` takes
its two bytes at bus address 0x9000 + 16 * signed(id) + 2 * row, plane 0 first. A window group, with LCDC bit 4 = 1, takes
its map byte by the window's own column and line and its tile at 0x8000 + 16 * id, and marks the window as used. -/
def Obligations.TileFetch : Prop :=
  (∀ s : State, s.fetcher.phase = .fetchTileId → s.ppu.lcdc.getLsbD 4 = false → s.ppu.lcdc.getLsbD 5 = false →
    let my := (s.ppu.ly.toNat + s.ppu.scy.toNat) % 256
    let mx := (s.fetcher.fetchX + s.ppu.scx.toNat) % 256
    let map := if s.ppu.lcdc.getLsbD 3 then 0x9C00 else 0x9800
    let id := s.mem.byteAt (map + my / 8 * 32 + mx / 8)
    let t1 := s.fetcherStep
    let t2 := t1.fetcherStep
    let t3 := t2.fetcherStep
    t2.fetcher.bgwLo = s.mem.byteAt (0x9000 + 16 * id.toInt + 2 * (my % 8 : Nat)).toNat ∧
    t3.fetcher.bgwHi = s.mem.byteAt (0x9000 + 16 * id.toInt + 2 * (my % 8 : Nat) + 1).toNat ∧
    t3.fetcher.phase = .sleep ∧ t3.fetcher.fetchX = s.fetcher.fetchX + 8 ∧ t3.ppu = s.ppu) ∧
  (∀ s : State, s.fetcher.phase = .fetchTileId → s.ppu.lcdc.getLsbD 4 = true → s.ppu.lcdc.getLsbD 5 = true →
    s.ppu.wx.toNat ≤ 166 → s.ppu.wy.toNat < 144 → s.ppu.wy.toNat ≤ s.ppu.ly.toNat →
    s.ppu.wx.toNat ≤ s.fetcher.fetchX + 7 →
    let col := (s.fetcher.fetchX + 7 - s.ppu.wx.toNat) / 8 % 32
    let wl := s.ppu.windowLine.toNat
    let map := if s.ppu.lcdc.getLsbD 6 then 0x9C00 else 0x9800
    let id := s.mem.byteAt (map + wl / 8 * 32 + col)
    let t1 := s.fetcherStep
    let t2 := t1.fetcherStep
    let t3 := t2.fetcherStep
    t2.fetcher.bgwLo = s.mem.byteAt (0x8000 + 16 * id.toNat + 2 * (wl % 8)) ∧
    t3.fetcher.bgwHi = s.mem.byteAt (0x8000 + 16 * id.toNat + 2 * (wl % 8) + 1) ∧
    t3.ppu = { s.ppu with windowUsed := true })

/-! ## The invariant -/

/-- The reset state is a kept state. -/
def Obligations.ResetKept : Prop := State.reset.Inv

/-- Every step from a kept state answers a kept state: storage stays canonical, the cycle counter tells frame, line and
dot, each mode has its dots and lines, the drawn line keeps its schedule, the lists and counters keep their bounds. -/
def Obligations.StepKeepsInv : Prop := ∀ s t : State, s.Inv → step s = .next t → t.Inv

/-- After reset PC is 0x0100 and SP is 0xFFFE. -/
def Obligations.ResetPcSp : Prop := State.reset.cpu.pc = 0x0100 ∧ State.reset.cpu.sp = 0xFFFE

/-- The other registers after reset, as a program would read them. -/
def Obligations.ResetRegisters : Prop :=
  let r := State.reset
  r.cpu.af = 0x01B0 ∧ r.cpu.bc = 0x0013 ∧ r.cpu.de = 0x00D8 ∧ r.cpu.hl = 0x014D ∧
  r.cpu.ime = false ∧ r.cpu.imePending = false ∧ r.cpu.halted = false ∧ r.cpu.fatal = none ∧
  r.busRead 0xFF04 = 0xAB ∧ r.busRead 0xFF05 = 0x00 ∧ r.busRead 0xFF06 = 0x00 ∧ r.busRead 0xFF07 = 0xF8 ∧
  r.busRead 0xFF0F = 0xE1 ∧ r.busRead 0xFFFF = 0x00 ∧ r.busRead 0xFF40 = 0x91 ∧ r.busRead 0xFF41 = 0x86 ∧
  r.busRead 0xFF42 = 0x00 ∧ r.busRead 0xFF43 = 0x00 ∧ r.busRead 0xFF44 = 0x00 ∧ r.busRead 0xFF45 = 0x00 ∧
  r.busRead 0xFF46 = 0xFF ∧ r.busRead 0xFF47 = 0xFC ∧ r.busRead 0xFF48 = 0xFF ∧ r.busRead 0xFF49 = 0xFF ∧
  r.busRead 0xFF4A = 0x00 ∧ r.busRead 0xFF4B = 0x00 ∧ r.cycles = 0 ∧ r.frames = [] ∧ r.extWrites = []

/-! ## The bus -/

/-- The regions without side effects: VRAM, WRAM and HRAM read back what was written and a write there changes no other
byte and nothing else; IE is the byte at 0xFFFF; a write to a sentinel range changes nothing and a read gives the
sentinel; an access in the cartridge's two ranges is the cartridge's, and the ROM-only one ignores writes. -/
def Obligations.BusRegions : Prop :=
  (∀ (s : State) (a : Word) (v : Byte),
    (0x8000 ≤ a.toNat ∧ a.toNat < 0xA000) ∨ (0xC000 ≤ a.toNat ∧ a.toNat < 0xE000) ∨
      (0xFF80 ≤ a.toNat ∧ a.toNat < 0xFFFF) →
    (s.busWrite a v).busRead a = v ∧ (∀ b, b ≠ a → (s.busWrite a v).busRead b = s.busRead b) ∧
    { s.busWrite a v with mem := s.mem } = s) ∧
  (∀ (s : State) (v : Byte), (s.busWrite 0xFFFF v).busRead 0xFFFF = v ∧
    s.busWrite 0xFFFF v = { s with irq := { s.irq with enable := v } }) ∧
  (∀ (s : State) (a : Word) (v : Byte), 0xE000 ≤ a.toNat → a.toNat < 0xFE00 →
    s.busWrite a v = s ∧ s.busRead a = Config.echoSentinel) ∧
  (∀ (s : State) (a : Word) (v : Byte), 0xFEA0 ≤ a.toNat → a.toNat < 0xFF00 →
    s.busWrite a v = s ∧ s.busRead a = Config.unusableSentinel) ∧
  (Config.echoSentinel = 0x00 ∨ Config.echoSentinel = 0xFF) ∧
  (Config.unusableSentinel = 0x00 ∨ Config.unusableSentinel = 0xFF) ∧
  (∀ (s : State) (a : Word) (v : Byte), a.toNat < 0x8000 ∨ (0xA000 ≤ a.toNat ∧ a.toNat < 0xC000) →
    s.busRead a = s.cart.read a ∧ s.busWrite a v = { s with cart := s.cart.write a v } ∧
    (∀ rom, s.cart = .romOnly rom → s.busWrite a v = s ∧ (0xA000 ≤ a.toNat → s.busRead a = 0xFF)))

/-- What a read after a write of the I/O registers gives, register by register. That the oracle's answer is a free value at
the count `extReads` is the model's choice (log entry 6). -/
def Obligations.IoReadBack : Prop :=
  ∀ (s : State) (v : Byte),
    (s.busWrite 0xFF04 v).busRead 0xFF04 = 0 ∧ (s.busWrite 0xFF04 v).timer = { s.timer with div16 := 0 } ∧
    (s.busWrite 0xFF05 v).busRead 0xFF05 = v ∧ (s.busWrite 0xFF06 v).busRead 0xFF06 = v ∧
    (s.busWrite 0xFF07 v).busRead 0xFF07 = (v ||| 0xF8) ∧ (s.busWrite 0xFF0F v).busRead 0xFF0F = (v ||| 0xE0) ∧
    (s.busWrite 0xFF40 v).busRead 0xFF40 = v ∧
    (s.busWrite 0xFF41 v).busRead 0xFF41 = (0x80 ||| v &&& 0x78 ||| s.busRead 0xFF41 &&& 0x07) ∧
    (s.busWrite 0xFF42 v).busRead 0xFF42 = v ∧ (s.busWrite 0xFF43 v).busRead 0xFF43 = v ∧
    s.busWrite 0xFF44 v = s ∧ (s.busWrite 0xFF45 v).busRead 0xFF45 = v ∧
    (s.busWrite 0xFF46 v).busRead 0xFF46 = v ∧
    (s.busWrite 0xFF46 v).dma = { state := .startDelay, delay := 2, index := 0, page := v } ∧
    (s.busWrite 0xFF47 v).busRead 0xFF47 = v ∧ (s.busWrite 0xFF48 v).busRead 0xFF48 = v ∧
    (s.busWrite 0xFF49 v).busRead 0xFF49 = v ∧ (s.busWrite 0xFF4A v).busRead 0xFF4A = v ∧
    (s.busWrite 0xFF4B v).busRead 0xFF4B = v ∧
    (∀ a : Word, a = 0xFF00 ∨ a = 0xFF01 ∨ a = 0xFF02 →
      s.busWrite a v = { s with extWrites := s.extWrites ++ [(a, v)] } ∧ s.busRead a = Config.extRead s.extReads a) ∧
    (∀ a : Word, a = 0xFF03 ∨ (0xFF08 ≤ a.toNat ∧ a.toNat < 0xFF0F) ∨ (0xFF10 ≤ a.toNat ∧ a.toNat < 0xFF40) ∨
        (0xFF4C ≤ a.toNat ∧ a.toNat < 0xFF80) →
      s.busWrite a v = { s with extWrites := s.extWrites ++ [(a, v)] } ∧ s.busRead a = Config.ioUnmappedRead a)

/-- `push16` and `pop16`: the high byte is stored at SP - 1 first, then the low byte at SP - 2; a pop reads the low byte
at SP, then the high byte at SP + 1; a pop after a push to plain RAM gives the value back and restores SP. The count
`extReads` is the model's choice (log entry 6). -/
def Obligations.StackPushPop : Prop :=
  (∀ (s : State) (v : Word), s.push16 v =
    { (s.busWrite (s.cpu.sp - 1) (v.extractLsb' 8 8)).busWrite (s.cpu.sp - 2) (v.extractLsb' 0 8) with
      cpu := { s.cpu with sp := s.cpu.sp - 2 } }) ∧
  (∀ s : State, s.pop16 =
    ((s.noteRead s.cpu.sp).busRead (s.cpu.sp + 1) ++ s.busRead s.cpu.sp,
     { s with
       cpu := { s.cpu with sp := s.cpu.sp + 2 }
       extReads := s.extReads + extAnswers s.cpu.sp + extAnswers (s.cpu.sp + 1) })) ∧
  (∀ (s : State) (v : Word),
    (∀ a : Word, a = s.cpu.sp - 1 ∨ a = s.cpu.sp - 2 →
      (0x8000 ≤ a.toNat ∧ a.toNat < 0xA000) ∨ (0xC000 ≤ a.toNat ∧ a.toNat < 0xE000) ∨
        (0xFF80 ≤ a.toNat ∧ a.toNat < 0xFFFF)) →
    (s.push16 v).pop16.1 = v ∧ (s.push16 v).pop16.2.cpu = s.cpu)

/-! ## Registers -/

/-- The register file: a register written reads back and the others stay; the pairs are views of two registers, the
first-named one high; a write to AF drops bits 3 to 0; F reads bits 3 to 0 as zero. -/
def Obligations.RegisterFile : Prop :=
  (∀ (c : Cpu) (r q : Reg8) (v : Byte), (c.setReg r v).reg q = if q = r then v else c.reg q) ∧
  (∀ (c : Cpu) (r : Reg8) (v : Byte), (c.setReg r v).f = c.f ∧ (c.setReg r v).sp = c.sp ∧ (c.setReg r v).pc = c.pc) ∧
  (∀ c : Cpu, c.bc.toNat = c.b.toNat * 256 + c.c.toNat ∧ c.de.toNat = c.d.toNat * 256 + c.e.toNat ∧
    c.hl.toNat = c.h.toNat * 256 + c.l.toNat ∧ c.af.toNat = c.a.toNat * 256 + c.f.byte.toNat) ∧
  (∀ (c : Cpu) (p : Pair) (v : Word), (c.setPair p v).pair p = v) ∧
  (∀ (c : Cpu) (v : Word), (c.setStackPair .af v).af = v &&& 0xFFF0) ∧
  (∀ f : Flags, f.byte &&& 0x0F = 0 ∧ f.byte.getLsbD 7 = f.z ∧ f.byte.getLsbD 6 = f.n ∧ f.byte.getLsbD 5 = f.h ∧
    f.byte.getLsbD 4 = f.c ∧ Flags.ofByte f.byte = f)

/-! ## 8-bit loads and stores -/

/-- `LD r,r'` and `LD r,d8`. -/
def Obligations.LoadRegister : Prop :=
  (∀ (i : Instr) (s : State) (dst src : Reg8), i.shape = .ldRegReg dst src →
    encode i = [(1 : BitVec 2) ++ dst.code ++ src.code] ∧
    exec i s = .next { s with cpu := s.cpu.setReg dst (s.cpu.reg src), mcycles := 1 }) ∧
  (∀ (i : Instr) (s : State) (dst : Reg8) (n : Byte), i.shape = .ldRegImm dst n →
    encode i = [(0 : BitVec 2) ++ dst.code ++ (6 : BitVec 3), n] ∧
    exec i s = .next { s with cpu := s.cpu.setReg dst n, mcycles := 2 })

/-- The loads of a register from a byte of memory: `LD r,(HL)`, `LD A,(BC)`, `LD A,(DE)`, `LD A,(a16)`, `LDH A,(a8)`,
`LD A,(C)`. The count `extReads` is the model's choice (log entry 6). -/
def Obligations.LoadFromMemory : Prop :=
  ∀ (i : Instr) (s : State) (dst : Reg8) (a : Word) (n : Nat) (bytes : List Byte),
    (i.shape = .ldRegHl dst ∧ bytes = [(1 : BitVec 2) ++ dst.code ++ (6 : BitVec 3)] ∧ a = s.cpu.h ++ s.cpu.l ∧ n = 2) ∨
    (i.shape = .ldAInd .bc ∧ bytes = [0x0A] ∧ dst = .a ∧ a = s.cpu.b ++ s.cpu.c ∧ n = 2) ∨
    (i.shape = .ldAInd .de ∧ bytes = [0x1A] ∧ dst = .a ∧ a = s.cpu.d ++ s.cpu.e ∧ n = 2) ∨
    (i.shape = .ldAAbs a ∧ bytes = [0xFA, a.extractLsb' 0 8, a.extractLsb' 8 8] ∧ dst = .a ∧ n = 4) ∨
    (∃ e : Byte, i.shape = .ldhA e ∧ bytes = [0xF0, e] ∧ dst = .a ∧ a = 0xFF00 + e.zeroExtend 16 ∧ n = 3) ∨
    (i.shape = .ldAHighC ∧ bytes = [0xF2] ∧ dst = .a ∧ a = 0xFF00 + s.cpu.c.zeroExtend 16 ∧ n = 2) →
    encode i = bytes ∧ exec i s = .next { s with
      cpu := s.cpu.setReg dst (s.busRead a), extReads := s.extReads + extAnswers a, mcycles := n }

/-- The stores of one byte: `LD (HL),r`, `LD (HL),d8`, `LD (BC),A`, `LD (DE),A`, `LD (a16),A`, `LDH (a8),A`,
`LD (C),A`. -/
def Obligations.StoreToMemory : Prop :=
  ∀ (i : Instr) (s : State) (a : Word) (v : Byte) (n : Nat) (bytes : List Byte),
    (∃ r, i.shape = .ldHlReg r ∧ bytes = [(1 : BitVec 2) ++ (6 : BitVec 3) ++ r.code] ∧ a = s.cpu.h ++ s.cpu.l ∧
      v = s.cpu.reg r ∧ n = 2) ∨
    (i.shape = .ldHlImm v ∧ bytes = [0x36, v] ∧ a = s.cpu.h ++ s.cpu.l ∧ n = 3) ∨
    (i.shape = .ldIndA .bc ∧ bytes = [0x02] ∧ a = s.cpu.b ++ s.cpu.c ∧ v = s.cpu.a ∧ n = 2) ∨
    (i.shape = .ldIndA .de ∧ bytes = [0x12] ∧ a = s.cpu.d ++ s.cpu.e ∧ v = s.cpu.a ∧ n = 2) ∨
    (i.shape = .ldAbsA a ∧ bytes = [0xEA, a.extractLsb' 0 8, a.extractLsb' 8 8] ∧ v = s.cpu.a ∧ n = 4) ∨
    (∃ e : Byte, i.shape = .ldhStoreA e ∧ bytes = [0xE0, e] ∧ a = 0xFF00 + e.zeroExtend 16 ∧ v = s.cpu.a ∧ n = 3) ∨
    (i.shape = .ldHighCA ∧ bytes = [0xE2] ∧ a = 0xFF00 + s.cpu.c.zeroExtend 16 ∧ v = s.cpu.a ∧ n = 2) →
    encode i = bytes ∧ exec i s = .next { s.busWrite a v with mcycles := n }

/-- `LD A,(HL+)`, `LD A,(HL-)`, `LD (HL+),A`, `LD (HL-),A`: the access at the old HL, then HL one up or down. The
count `extReads` is the model's choice (log entry 6). -/
def Obligations.LoadStoreStepHl : Prop :=
  ∀ (i : Instr) (s : State) (st : HlStep),
    let hl : Word := s.cpu.h ++ s.cpu.l
    let hl' : Word := match st with
      | .inc => hl + 1
      | .dec => hl - 1
    (i.shape = .ldAHlStep st →
      encode i = [match st with
        | .inc => 0x2A
        | .dec => 0x3A] ∧
      exec i s = .next { s with
        cpu := { s.cpu with a := s.busRead hl, h := hl'.extractLsb' 8 8, l := hl'.extractLsb' 0 8 }
        extReads := s.extReads + extAnswers hl, mcycles := 2 }) ∧
    (i.shape = .ldHlStepA st →
      encode i = [match st with
        | .inc => 0x22
        | .dec => 0x32] ∧
      exec i s = .next { s.busWrite hl s.cpu.a with
        cpu := { s.cpu with h := hl'.extractLsb' 8 8, l := hl'.extractLsb' 0 8 }, mcycles := 2 })

/-! ## 16-bit loads and the stack -/

/-- `LD rr,d16`, `LD SP,HL` and `LD (a16),SP`, which stores the low byte first. -/
def Obligations.LoadPair : Prop :=
  (∀ (i : Instr) (s : State) (p : Pair) (v : Word), i.shape = .ldPairImm p v →
    encode i = [(0 : BitVec 2) ++ p.code ++ (1 : BitVec 4), v.extractLsb' 0 8, v.extractLsb' 8 8] ∧
    exec i s = .next { s with cpu := s.cpu.setPair p v, mcycles := 3 }) ∧
  (∀ (i : Instr) (s : State), i.shape = .ldSpHl → encode i = [0xF9] ∧
    exec i s = .next { s with cpu := { s.cpu with sp := s.cpu.h ++ s.cpu.l }, mcycles := 2 }) ∧
  (∀ (i : Instr) (s : State) (a : Word), i.shape = .ldAbsSp a →
    encode i = [0x08, a.extractLsb' 0 8, a.extractLsb' 8 8] ∧
    exec i s = .next { (s.busWrite a (s.cpu.sp.extractLsb' 0 8)).busWrite (a + 1) (s.cpu.sp.extractLsb' 8 8) with
      mcycles := 5 })

/-- `PUSH rr` and `POP rr`, AF included. The count `extReads` is the model's choice (log entry 6). -/
def Obligations.PushPop : Prop :=
  (∀ (i : Instr) (s : State) (p : StackPair), i.shape = .push p →
    encode i = [(3 : BitVec 2) ++ p.code ++ (5 : BitVec 4)] ∧
    exec i s = .next { s.push16 (s.cpu.stackPair p) with mcycles := 4 }) ∧
  (∀ (i : Instr) (s : State) (p : StackPair), i.shape = .pop p →
    let lo := s.busRead s.cpu.sp
    let hi := (s.noteRead s.cpu.sp).busRead (s.cpu.sp + 1)
    encode i = [(3 : BitVec 2) ++ p.code ++ (1 : BitVec 4)] ∧
    exec i s = .next { s with
      cpu := match p with
        | .bc => { s.cpu with b := hi, c := lo, sp := s.cpu.sp + 2 }
        | .de => { s.cpu with d := hi, e := lo, sp := s.cpu.sp + 2 }
        | .hl => { s.cpu with h := hi, l := lo, sp := s.cpu.sp + 2 }
        | .af => { s.cpu with
            a := hi
            f := { z := lo.getLsbD 7, n := lo.getLsbD 6, h := lo.getLsbD 5, c := lo.getLsbD 4 }
            sp := s.cpu.sp + 2 }
      extReads := s.extReads + extAnswers s.cpu.sp + extAnswers (s.cpu.sp + 1), mcycles := 3 })

/-- `LD HL,SP+e8` and `ADD SP,e8`: the signed sum, Z and N cleared, H and C the carries out of bits 3 and 7 of the
unsigned sum of SP's low byte and the raw byte. -/
def Obligations.SpPlusSigned : Prop :=
  ∀ (i : Instr) (s : State) (e : Byte),
    let lo := s.cpu.sp.toNat % 256
    let r : Word := BitVec.ofInt 16 (s.cpu.sp.toNat + e.toInt)
    let f : Flags := { z := false, n := false, h := decide (15 < lo % 16 + e.toNat % 16), c := decide (255 < lo + e.toNat) }
    (i.shape = .ldHlSpE8 e → encode i = [0xF8, e] ∧
      exec i s = .next { s with
        cpu := { s.cpu with h := r.extractLsb' 8 8, l := r.extractLsb' 0 8, f := f }, mcycles := 3 }) ∧
    (i.shape = .addSp e → encode i = [0xE8, e] ∧
      exec i s = .next { s with cpu := { s.cpu with sp := r, f := f }, mcycles := 4 })

/-! ## 8-bit arithmetic and logic -/

/-- `ADD A,b` and `ADC A,b` on numbers, for every operand form. The count `extReads` is the model's choice (log
entry 6). -/
def Obligations.AddAdc : Prop :=
  ∀ (i : Instr) (s : State) (op : AluOp) (b : Src8), i.shape = .alu op b → op = .add ∨ op = .adc →
    let x := s.cpu.a.toNat
    let y := (s.readSrc b).toNat
    let cin := if op = .adc ∧ s.cpu.f.c = true then 1 else 0
    encode i = aluBytes op b ∧
    exec i s = .next { s with
      cpu := { s.cpu with
        a := BitVec.ofNat 8 (x + y + cin)
        f := { z := decide ((x + y + cin) % 256 = 0), n := false, h := decide (15 < x % 16 + y % 16 + cin),
               c := decide (255 < x + y + cin) } }
      extReads := s.extReads + srcAnswers s b, mcycles := aluCost b }

/-- `SUB A,b`, `SBC A,b` and `CP A,b` on numbers, for every operand form; CP keeps A. The count `extReads` is the
model's choice (log entry 6). -/
def Obligations.SubSbcCp : Prop :=
  ∀ (i : Instr) (s : State) (op : AluOp) (b : Src8), i.shape = .alu op b → op = .sub ∨ op = .sbc ∨ op = .cp →
    let x := s.cpu.a.toNat
    let y := (s.readSrc b).toNat
    let cin := if op = .sbc ∧ s.cpu.f.c = true then 1 else 0
    let r := (x + 256 - (y + cin)) % 256
    encode i = aluBytes op b ∧
    exec i s = .next { s with
      cpu := { s.cpu with
        a := if op = .cp then s.cpu.a else BitVec.ofNat 8 r
        f := { z := decide (r = 0), n := true, h := decide (x % 16 < y % 16 + cin), c := decide (x < y + cin) } }
      extReads := s.extReads + srcAnswers s b, mcycles := aluCost b }

/-- `AND A,b`, `XOR A,b`, `OR A,b` bit by bit, for every operand form. The count `extReads` is the model's
choice (log entry 6). -/
def Obligations.Logic : Prop :=
  ∀ (i : Instr) (s : State) (op : AluOp) (b : Src8), i.shape = .alu op b → op = .and ∨ op = .xor ∨ op = .or →
    ∃ r : Byte,
      (∀ k, k < 8 → r.getLsbD k =
        match op with
        | .and => s.cpu.a.getLsbD k && (s.readSrc b).getLsbD k
        | .xor => s.cpu.a.getLsbD k ^^ (s.readSrc b).getLsbD k
        | _ => s.cpu.a.getLsbD k || (s.readSrc b).getLsbD k) ∧
      encode i = aluBytes op b ∧
      exec i s = .next { s with
        cpu := { s.cpu with a := r, f := { z := decide (r = 0), n := false, h := decide (op = .and), c := false } }
        extReads := s.extReads + srcAnswers s b, mcycles := aluCost b }

/-- `INC` and `DEC` of a register and of the byte at HL: flag C is kept. The count `extReads` is the model's choice (log
entry 6). -/
def Obligations.IncDec : Prop :=
  (∀ (i : Instr) (s : State) (r : Reg8), i.shape = .incReg r →
    let v := s.cpu.reg r
    encode i = [(0 : BitVec 2) ++ r.code ++ (4 : BitVec 3)] ∧
    exec i s = .next { s with
      cpu := { s.cpu.setReg r (v + 1) with
        f := { z := decide (v.toNat = 255), n := false, h := decide (v.toNat % 16 = 15), c := s.cpu.f.c } }
      mcycles := 1 }) ∧
  (∀ (i : Instr) (s : State) (r : Reg8), i.shape = .decReg r →
    let v := s.cpu.reg r
    encode i = [(0 : BitVec 2) ++ r.code ++ (5 : BitVec 3)] ∧
    exec i s = .next { s with
      cpu := { s.cpu.setReg r (v - 1) with
        f := { z := decide (v.toNat = 1), n := true, h := decide (v.toNat % 16 = 0), c := s.cpu.f.c } }
      mcycles := 1 }) ∧
  (∀ (i : Instr) (s : State), i.shape = .incMem →
    let hl : Word := s.cpu.h ++ s.cpu.l
    let v := s.busRead hl
    encode i = [0x34] ∧
    exec i s = .next { s.busWrite hl (v + 1) with
      cpu := { s.cpu with
        f := { z := decide (v.toNat = 255), n := false, h := decide (v.toNat % 16 = 15), c := s.cpu.f.c } }
      extReads := s.extReads + extAnswers hl, mcycles := 3 }) ∧
  (∀ (i : Instr) (s : State), i.shape = .decMem →
    let hl : Word := s.cpu.h ++ s.cpu.l
    let v := s.busRead hl
    encode i = [0x35] ∧
    exec i s = .next { s.busWrite hl (v - 1) with
      cpu := { s.cpu with
        f := { z := decide (v.toNat = 1), n := true, h := decide (v.toNat % 16 = 0), c := s.cpu.f.c } }
      extReads := s.extReads + extAnswers hl, mcycles := 3 })

/-- `DAA`, `CPL`, `SCF`, `CCF`. The correction of DAA: after an addition 6 for a low digit above 9 or H, and 0x60 for A
above 0x99 or C, which sets C; after a subtraction by H and C alone. -/
def Obligations.DaaCplScfCcf : Prop :=
  (∀ (i : Instr) (s : State), i.shape = .daa →
    let x := s.cpu.a.toNat
    let f := s.cpu.f
    let lowDigit := f.h = true ∨ (f.n = false ∧ 9 < x % 16)
    let highDigit := f.c = true ∨ (f.n = false ∧ 0x99 < x)
    let corr := (if lowDigit then 6 else 0) + (if highDigit then 0x60 else 0)
    let r := if f.n = true then (x + 256 - corr) % 256 else (x + corr) % 256
    encode i = [0x27] ∧
    exec i s = .next { s with
      cpu := { s.cpu with
        a := BitVec.ofNat 8 r, f := { z := decide (r = 0), n := f.n, h := false, c := decide highDigit } }
      mcycles := 1 }) ∧
  (∀ (i : Instr) (s : State), i.shape = .cpl → encode i = [0x2F] ∧ exec i s = .next { s with
    cpu := { s.cpu with a := BitVec.ofNat 8 (255 - s.cpu.a.toNat), f := { s.cpu.f with n := true, h := true } }
    mcycles := 1 }) ∧
  (∀ (i : Instr) (s : State), i.shape = .scf → encode i = [0x37] ∧ exec i s = .next { s with
    cpu := { s.cpu with f := { s.cpu.f with n := false, h := false, c := true } }, mcycles := 1 }) ∧
  (∀ (i : Instr) (s : State), i.shape = .ccf → encode i = [0x3F] ∧ exec i s = .next { s with
    cpu := { s.cpu with f := { s.cpu.f with n := false, h := false, c := !s.cpu.f.c } }, mcycles := 1 })

/-- Decimal arithmetic: an ADD, ADC, SUB or SBC of two BCD bytes followed by DAA leaves the BCD byte of the decimal sum or
difference modulo 100, flag C its decimal carry or borrow, and Z set exactly when that is zero. -/
def Obligations.DecimalArithmetic : Prop :=
  ∀ (i j : Instr) (s t : State) (op : AluOp) (b : Src8), i.shape = .alu op b → j.shape = .daa →
    op = .add ∨ op = .adc ∨ op = .sub ∨ op = .sbc → isBcd s.cpu.a → isBcd (s.readSrc b) → exec i s = .next t →
    let x := bcdValue s.cpu.a
    let y := bcdValue (s.readSrc b)
    let cin := if (op = .adc ∨ op = .sbc) ∧ s.cpu.f.c = true then 1 else 0
    ∃ u, exec j t = .next u ∧ isBcd u.cpu.a ∧
      (op = .add ∨ op = .adc → bcdValue u.cpu.a = (x + y + cin) % 100 ∧ u.cpu.f.c = decide (100 ≤ x + y + cin)) ∧
      (op = .sub ∨ op = .sbc → bcdValue u.cpu.a = (x + 100 - (y + cin)) % 100 ∧ u.cpu.f.c = decide (x < y + cin)) ∧
      u.cpu.f.z = decide (bcdValue u.cpu.a = 0)

/-! ## 16-bit arithmetic -/

/-- `ADD HL,rr` (Z kept, H and C the carries out of bits 11 and 15), `INC rr`, `DEC rr` (no flag). -/
def Obligations.PairArithmetic : Prop :=
  (∀ (i : Instr) (s : State) (p : Pair), i.shape = .addHl p →
    let x := s.cpu.hl.toNat
    let y := (s.cpu.pair p).toNat
    let r : Word := BitVec.ofNat 16 (x + y)
    encode i = [(0 : BitVec 2) ++ p.code ++ (9 : BitVec 4)] ∧
    exec i s = .next { s with
      cpu := { s.cpu with
        h := r.extractLsb' 8 8, l := r.extractLsb' 0 8
        f := { z := s.cpu.f.z, n := false, h := decide (0xFFF < x % 0x1000 + y % 0x1000), c := decide (0xFFFF < x + y) } }
      mcycles := 2 }) ∧
  (∀ (i : Instr) (s : State) (p : Pair), i.shape = .incPair p →
    encode i = [(0 : BitVec 2) ++ p.code ++ (3 : BitVec 4)] ∧
    exec i s = .next { s with cpu := s.cpu.setPair p (s.cpu.pair p + 1), mcycles := 2 }) ∧
  (∀ (i : Instr) (s : State) (p : Pair), i.shape = .decPair p →
    encode i = [(0 : BitVec 2) ++ p.code ++ (11 : BitVec 4)] ∧
    exec i s = .next { s with cpu := s.cpu.setPair p (s.cpu.pair p - 1), mcycles := 2 })

/-! ## Rotates, shifts and bits -/

/-- `RLCA`, `RRCA`, `RLA`, `RRA` on numbers, Z always cleared; `RLC RRC RL RR SLA SRA SWAP SRL` on numbers, of a register
and of the byte at HL, Z from the result. The spec marks the family's flag effects as general knowledge (log entry 19);
the count `extReads` is the model's choice (log entry 6). -/
def Obligations.RotateShift : Prop :=
  (∀ (i : Instr) (s : State) (op : AccRotOp), i.shape = .rotA op →
    let r := rotValue (accRot op) s.cpu.a.toNat s.cpu.f.c.toNat
    encode i = [(0 : BitVec 2) ++ op.code ++ (7 : BitVec 3)] ∧
    exec i s = .next { s with
      cpu := { s.cpu with a := BitVec.ofNat 8 r.1, f := { z := false, n := false, h := false, c := r.2 } }, mcycles := 1 }) ∧
  (∀ (i : Instr) (s : State) (op : RotOp) (r : Reg8), i.shape = .rot op (.reg r) →
    let x := rotValue op (s.cpu.reg r).toNat s.cpu.f.c.toNat
    encode i = [0xCB, (0 : BitVec 2) ++ op.code ++ r.code] ∧
    exec i s = .next { s with
      cpu := { s.cpu.setReg r (BitVec.ofNat 8 x.1) with f := { z := decide (x.1 = 0), n := false, h := false, c := x.2 } }
      mcycles := 2 }) ∧
  (∀ (i : Instr) (s : State) (op : RotOp), i.shape = .rot op .mem →
    let hl : Word := s.cpu.h ++ s.cpu.l
    let x := rotValue op (s.busRead hl).toNat s.cpu.f.c.toNat
    encode i = [0xCB, (0 : BitVec 2) ++ op.code ++ (6 : BitVec 3)] ∧
    exec i s = .next { s.busWrite hl (BitVec.ofNat 8 x.1) with
      cpu := { s.cpu with f := { z := decide (x.1 = 0), n := false, h := false, c := x.2 } }
      extReads := s.extReads + extAnswers hl, mcycles := 4 })

/-- `BIT n`: Z tells whether the bit is 0, N cleared, H set, C kept, nothing written back. The spec marks the
family's flag effects as general knowledge (log entry 19); the count `extReads` is the model's choice (log entry 6). -/
def Obligations.BitTest : Prop :=
  (∀ (i : Instr) (s : State) (n : BitVec 3) (r : Reg8), i.shape = .bit n (.reg r) →
    encode i = [0xCB, (1 : BitVec 2) ++ n ++ r.code] ∧
    exec i s = .next { s with
      cpu := { s.cpu with
        f := { z := decide ((s.cpu.reg r).toNat / 2 ^ n.toNat % 2 = 0), n := false, h := true, c := s.cpu.f.c } }
      mcycles := 2 }) ∧
  (∀ (i : Instr) (s : State) (n : BitVec 3), i.shape = .bit n .mem →
    let hl : Word := s.cpu.h ++ s.cpu.l
    encode i = [0xCB, (1 : BitVec 2) ++ n ++ (6 : BitVec 3)] ∧
    exec i s = .next { s with
      cpu := { s.cpu with
        f := { z := decide ((s.busRead hl).toNat / 2 ^ n.toNat % 2 = 0), n := false, h := true, c := s.cpu.f.c } }
      extReads := s.extReads + extAnswers hl, mcycles := 3 })

/-- `RES n` and `SET n`, of a register and of the byte at HL: bit n becomes 0 or 1, the others stay, no flag changes.
The spec marks the family's flag effects as general knowledge (log entry 19); the count `extReads` is the model's choice
(log entry 6). -/
def Obligations.BitResetSet : Prop :=
  ∀ (i : Instr) (s : State) (n : BitVec 3) (o : Loc8) (on : Bool),
    i.shape = (if on then .setBit n o else .res n o) →
    encode i = [0xCB, (if on then (3 : BitVec 2) else 2) ++ n ++ o.code] ∧
    ∃ w : Byte, (∀ k, k < 8 → w.getLsbD k = if k = n.toNat then on else (s.readLoc o).getLsbD k) ∧
      match o with
      | .reg r => exec i s = .next { s with cpu := s.cpu.setReg r w, mcycles := 2 }
      | .mem => exec i s = .next { s.busWrite (s.cpu.h ++ s.cpu.l) w with
          extReads := s.extReads + extAnswers (s.cpu.h ++ s.cpu.l), mcycles := 4 }

/-! ## Control transfer -/

/-- `JP a16`, `JP cc,a16`, `JP HL`, `JR e8`, `JR cc,e8`: only PC changes; the cost tells whether the
jump was taken; the conditions test Z and flag C only. -/
def Obligations.Jumps : Prop :=
  (∀ f : Flags, condHolds f .nz = !f.byte.getLsbD 7 ∧ condHolds f .z = f.byte.getLsbD 7 ∧
    condHolds f .nc = !f.byte.getLsbD 4 ∧ condHolds f .c = f.byte.getLsbD 4) ∧
  (∀ (i : Instr) (s : State) (a : Word), i.shape = .jp a → encode i = [0xC3, a.extractLsb' 0 8, a.extractLsb' 8 8] ∧
    exec i s = .next { s with cpu := { s.cpu with pc := a }, mcycles := 4 }) ∧
  (∀ (i : Instr) (s : State) (cc : Cond) (a : Word), i.shape = .jpCond cc a →
    encode i = [(6 : BitVec 3) ++ cc.code ++ (2 : BitVec 3), a.extractLsb' 0 8, a.extractLsb' 8 8] ∧
    exec i s = .next (if condHolds s.cpu.f cc then { s with cpu := { s.cpu with pc := a }, mcycles := 4 }
      else { s with mcycles := 3 })) ∧
  (∀ (i : Instr) (s : State), i.shape = .jpHl → encode i = [0xE9] ∧
    exec i s = .next { s with cpu := { s.cpu with pc := s.cpu.h ++ s.cpu.l }, mcycles := 1 }) ∧
  (∀ (i : Instr) (s : State) (e : Byte), i.shape = .jr e → encode i = [0x18, e] ∧
    exec i s = .next { s with cpu := { s.cpu with pc := BitVec.ofInt 16 (s.cpu.pc.toNat + e.toInt) }, mcycles := 3 }) ∧
  (∀ (i : Instr) (s : State) (cc : Cond) (e : Byte), i.shape = .jrCond cc e →
    encode i = [(1 : BitVec 3) ++ cc.code ++ (0 : BitVec 3), e] ∧
    exec i s = .next (if condHolds s.cpu.f cc then
        { s with cpu := { s.cpu with pc := BitVec.ofInt 16 (s.cpu.pc.toNat + e.toInt) }, mcycles := 3 }
      else { s with mcycles := 2 }))

/-- `CALL a16`, `CALL cc,a16`, `RST n`: the address of the next instruction is pushed, then PC is the target; a call not
taken touches neither SP nor memory. -/
def Obligations.Calls : Prop :=
  (∀ (i : Instr) (s : State) (a : Word), i.shape = .call a → encode i = [0xCD, a.extractLsb' 0 8, a.extractLsb' 8 8] ∧
    exec i s = .next { s.push16 s.cpu.pc with
      cpu := { s.cpu with sp := s.cpu.sp - 2, pc := a }, mcycles := 6 }) ∧
  (∀ (i : Instr) (s : State) (cc : Cond) (a : Word), i.shape = .callCond cc a →
    encode i = [(6 : BitVec 3) ++ cc.code ++ (4 : BitVec 3), a.extractLsb' 0 8, a.extractLsb' 8 8] ∧
    exec i s = .next (if condHolds s.cpu.f cc then
        { s.push16 s.cpu.pc with cpu := { s.cpu with sp := s.cpu.sp - 2, pc := a }, mcycles := 6 }
      else { s with mcycles := 3 })) ∧
  (∀ (i : Instr) (s : State) (n : BitVec 3), i.shape = .rst n → encode i = [(3 : BitVec 2) ++ n ++ (7 : BitVec 3)] ∧
    exec i s = .next { s.push16 s.cpu.pc with
      cpu := { s.cpu with sp := s.cpu.sp - 2, pc := BitVec.ofNat 16 (8 * n.toNat) }, mcycles := 4 })

/-- `RET`, `RET cc`, `RETI`: PC is popped, the low byte first; RETI sets IME at once and leaves the latch. The count
`extReads` is the model's choice (log entry 6). -/
def Obligations.Returns : Prop :=
  ∀ (i : Instr) (s : State),
    let lo := s.busRead s.cpu.sp
    let hi := (s.noteRead s.cpu.sp).busRead (s.cpu.sp + 1)
    let answers := s.extReads + extAnswers s.cpu.sp + extAnswers (s.cpu.sp + 1)
    (i.shape = .ret → encode i = [0xC9] ∧ exec i s = .next { s with
      cpu := { s.cpu with sp := s.cpu.sp + 2, pc := hi ++ lo }, extReads := answers, mcycles := 4 }) ∧
    (∀ cc, i.shape = .retCond cc → encode i = [(6 : BitVec 3) ++ cc.code ++ (0 : BitVec 3)] ∧
      exec i s = .next (if condHolds s.cpu.f cc then
        { s with cpu := { s.cpu with sp := s.cpu.sp + 2, pc := hi ++ lo }, extReads := answers, mcycles := 5 }
      else { s with mcycles := 2 })) ∧
    (i.shape = .reti → encode i = [0xD9] ∧ exec i s = .next { s with
      cpu := { s.cpu with sp := s.cpu.sp + 2, pc := hi ++ lo, ime := true }, extReads := answers, mcycles := 4 })

/-! ## System -/

/-- `NOP`, `HALT`, `DI`, `EI`. -/
def Obligations.SystemInstructions : Prop :=
  (∀ (i : Instr) (s : State), i.shape = .nop → encode i = [0x00] ∧ exec i s = .next { s with mcycles := 1 }) ∧
  (∀ (i : Instr) (s : State), i.shape = .halt → encode i = [0x76] ∧
    exec i s = .next { s with cpu := { s.cpu with halted := true }, mcycles := 1 }) ∧
  (∀ (i : Instr) (s : State), i.shape = .di → encode i = [0xF3] ∧
    exec i s = .next { s with cpu := { s.cpu with ime := false, imePending := false }, mcycles := 1 }) ∧
  (∀ (i : Instr) (s : State), i.shape = .ei → encode i = [0xFB] ∧
    exec i s = .next { s with cpu := { s.cpu with imePending := true }, mcycles := 1 })

/-- STOP and the eleven undefined opcodes set the latch with their opcode and address, leave PC at the opcode and change
nothing else; their step advances nothing. -/
def Obligations.FatalOpcodes : Prop :=
  (∀ (i : Instr) (s : State), i.shape = .stop → (encode i).head? = some 0x10 ∧ exec i s = .next { s with
    cpu := { s.cpu with pc := s.cpu.pc - 1, fatal := some (.stopUnmodelled (s.cpu.pc - 1)) } }) ∧
  (∀ (i : Instr) (s : State) (op : Byte), i.shape = .illegal op →
    i.wellFormed = false ∧ encode i = [op] ∧ exec i s = .next { s with
      cpu := { s.cpu with pc := s.cpu.pc - 1, fatal := some (.illegalOpcode op (s.cpu.pc - 1)) } })

/-! ## Frames, over all instructions -/

/-- Memory: a byte of VRAM, WRAM, OAM or HRAM outside the bytes an instruction stores to is unchanged; the cartridge, IE
and the device registers are unchanged by an instruction that stores to none of their addresses. -/
def Obligations.FrameMemory : Prop :=
  ∀ (i : Instr) (s t : State), exec i s = .next t →
    (∀ n : Nat, (∀ a ∈ storeAddrs i.shape s, a.toNat ≠ n) → t.mem.byteAt n = s.mem.byteAt n) ∧
    ((∀ a ∈ storeAddrs i.shape s, 0x8000 ≤ a.toNat ∧ (a.toNat < 0xA000 ∨ 0xC000 ≤ a.toNat)) → t.cart = s.cart) ∧
    ((∀ a ∈ storeAddrs i.shape s, a ≠ 0xFFFF) → t.irq.enable = s.irq.enable) ∧
    ((∀ a ∈ storeAddrs i.shape s, a.toNat < 0xFF00 ∨ 0xFF80 ≤ a.toNat) →
      t.timer = s.timer ∧ t.dma = s.dma ∧ t.ppu = s.ppu ∧ t.irq.req = s.irq.req ∧ t.extWrites = s.extWrites)

/-- Registers: an instruction changes no register but its destinations, and no flag but those the flag table names for
it. -/
def Obligations.FrameRegisters : Prop :=
  ∀ (i : Instr) (s t : State), exec i s = .next t →
    (∀ r, r ∉ destRegs i.shape → t.cpu.get r = s.cpu.get r) ∧
    ((flagWrites i.shape).1 = false → t.cpu.f.z = s.cpu.f.z) ∧
    ((flagWrites i.shape).2.1 = false → t.cpu.f.n = s.cpu.f.n) ∧
    ((flagWrites i.shape).2.2.1 = false → t.cpu.f.h = s.cpu.f.h) ∧
    ((flagWrites i.shape).2.2.2 = false → t.cpu.f.c = s.cpu.f.c)

/-- Control state: of all instructions only DI and RETI write IME, only DI and EI the latch, only HALT sets `halted`, only
STOP and the undefined opcodes set `fatal`; none writes LY, the mode, the PPU's counters, the fetcher, the frame buffer,
the frames or the cycle counter, nor the model's own fields of the environment (log entry 7). -/
def Obligations.FrameControl : Prop :=
  ∀ (i : Instr) (s t : State), exec i s = .next t →
    (i.shape ≠ .di → i.shape ≠ .reti → t.cpu.ime = s.cpu.ime) ∧
    (i.shape ≠ .di → i.shape ≠ .ei → t.cpu.imePending = s.cpu.imePending) ∧
    (i.shape ≠ .halt → t.cpu.halted = s.cpu.halted) ∧
    (i.shape ≠ .stop → i.wellFormed = true → t.cpu.fatal = s.cpu.fatal) ∧
    t.ppu.ly = s.ppu.ly ∧ t.ppu.mode = s.ppu.mode ∧ t.ppu.lineDot = s.ppu.lineDot ∧
    t.ppu.windowLine = s.ppu.windowLine ∧ t.ppu.windowUsed = s.ppu.windowUsed ∧ t.ppu.lycFlag = s.ppu.lycFlag ∧
    t.ppu.lineSprites = s.ppu.lineSprites ∧ t.fetcher = s.fetcher ∧ t.framebuf = s.framebuf ∧ t.frames = s.frames ∧
    t.cycles = s.cycles ∧ t.extTurns = s.extTurns ∧ t.extRequests = s.extRequests
end

