-- ==== Sys2Proof/Laws/Memory.lean ====
section
/-! SUPPORT. Laws of sparse storage: read after write, and that a write keeps the canonical form. -/

namespace Sys2Proof.Machine

variable {α : Type}

theorem sparseWfFrom_mono {m : List (Nat × α)} {lo lo' : Nat} (h : lo' ≤ lo) (hw : sparseWfFrom lo m = true) :
    sparseWfFrom lo' m = true := by
  cases m with
  | nil => rfl
  | cons c rest =>
    simp only [sparseWfFrom, Bool.and_eq_true, decide_eq_true_eq] at hw ⊢
    exact ⟨by omega, hw.2⟩

theorem sparseFind_below {m : List (Nat × α)} {lo a : Nat} (hw : sparseWfFrom lo m = true) (h : a < lo) :
    sparseFind m a = none := by
  cases m with
  | nil => rfl
  | cons c rest =>
    simp only [sparseWfFrom, Bool.and_eq_true, decide_eq_true_eq] at hw
    simp only [sparseFind]
    rw [if_neg (by omega), if_pos (by omega)]

/-- Reading the key just written gives the value written. -/
@[simp] theorem sparseFind_insert_same (m : List (Nat × α)) (a : Nat) (v : α) :
    sparseFind (sparseInsert m a v) a = some v := by
  induction m with
  | nil => simp [sparseInsert, sparseFind]
  | cons c rest ih =>
    simp only [sparseInsert]
    split
    · simp [sparseFind]
    · split
      · simp [sparseFind]
      · simp only [sparseFind]
        rw [if_neg (by omega), if_neg (by omega), ih]

/-- A write leaves every other key alone. -/
theorem sparseFind_insert_other (m : List (Nat × α)) {a b : Nat} (v : α) (h : b ≠ a) :
    sparseFind (sparseInsert m a v) b = sparseFind m b := by
  induction m with
  | nil => simp only [sparseInsert, sparseFind]; split <;> simp_all
  | cons c rest ih =>
    simp only [sparseInsert]
    split
    · next h1 =>
      simp only [sparseFind]
      by_cases h2 : b < a
      · rw [if_neg (by omega), if_pos h2, if_neg (by omega), if_pos (by omega)]
      · rw [if_neg (by omega), if_neg (by omega)]
    · split
      · next h1 h2 =>
        simp only [sparseFind]
        subst h2
        rw [if_neg h, if_neg h]
      · simp only [sparseFind, ih]

theorem sparseWfFrom_insert (m : List (Nat × α)) (lo a : Nat) (v : α) (h : lo ≤ a) (hw : sparseWfFrom lo m = true) :
    sparseWfFrom lo (sparseInsert m a v) = true := by
  induction m generalizing lo with
  | nil => simp [sparseInsert, sparseWfFrom, h]
  | cons c rest ih =>
    simp only [sparseWfFrom, Bool.and_eq_true, decide_eq_true_eq] at hw
    simp only [sparseInsert]
    split
    · next h1 =>
      simp only [sparseWfFrom, Bool.and_eq_true, decide_eq_true_eq]
      exact ⟨h, by omega, hw.2⟩
    · split
      · next h1 h2 =>
        subst h2
        simp only [sparseWfFrom, Bool.and_eq_true, decide_eq_true_eq]
        exact hw
      · simp only [sparseWfFrom, Bool.and_eq_true, decide_eq_true_eq]
        exact ⟨hw.1, ih _ (by omega) hw.2⟩

/-- A write keeps the canonical form. -/
theorem sparseWf_insert (m : List (Nat × α)) (a : Nat) (v : α) (hw : sparseWf m = true) :
    sparseWf (sparseInsert m a v) = true := sparseWfFrom_insert m 0 a v (Nat.zero_le a) hw

/-- A write lists no key but its own and those listed before. -/
theorem sparseInsert_all (p : Nat → Bool) (m : List (Nat × α)) (a : Nat) (v : α) (ha : p a = true)
    (hm : (m.all fun c => p c.1) = true) : ((sparseInsert m a v).all fun c => p c.1) = true := by
  induction m with
  | nil => simp [sparseInsert, ha]
  | cons c rest ih =>
    simp only [List.all_cons, Bool.and_eq_true] at hm
    simp only [sparseInsert]
    split
    · simp [ha, hm.1, hm.2]
    · split
      · simp [ha, hm.2]
      · simp [hm.1, ih hm.2]

/-- Canonical lists that read alike at every key are equal. -/
theorem sparse_ext {m n : List (Nat × α)} {lo : Nat} (hm : sparseWfFrom lo m = true) (hn : sparseWfFrom lo n = true)
    (h : ∀ a, sparseFind m a = sparseFind n a) : m = n := by
  induction m generalizing lo n with
  | nil =>
    cases n with
    | nil => rfl
    | cons c rest => have := h c.1; simp [sparseFind] at this
  | cons c rest ih =>
    cases n with
    | nil => have := h c.1; simp [sparseFind] at this
    | cons d tail =>
      obtain ⟨k, v⟩ := c
      obtain ⟨l, w⟩ := d
      simp only [sparseWfFrom, Bool.and_eq_true, decide_eq_true_eq] at hm hn
      have hkl : k = l := by
        have h1 := h k
        have h2 := h l
        simp only [sparseFind, if_true] at h1 h2
        by_contra hne
        rcases Nat.lt_or_gt_of_ne hne with hlt | hgt
        · rw [if_neg hne, if_pos hlt] at h1; cases h1
        · rw [if_neg (Ne.symm hne), if_pos hgt] at h2; cases h2
      subst hkl
      have hv : v = w := by simpa [sparseFind] using h k
      subst hv
      refine congrArg _ (ih hm.2 hn.2 fun a => ?_)
      by_cases ha : a < k + 1
      · rw [sparseFind_below hm.2 ha, sparseFind_below hn.2 ha]
      · have := h a
        simp only [sparseFind] at this
        rwa [if_neg (by omega), if_neg (by omega), if_neg (by omega), if_neg (by omega)] at this

/-! ## Memory -/

@[simp] theorem Memory.byteAt_insert_same (m : Memory) (a : Nat) (v : Byte) :
    Memory.byteAt (sparseInsert m a v) a = v := by simp [Memory.byteAt]

theorem Memory.byteAt_insert_other (m : Memory) {a b : Nat} (v : Byte) (h : b ≠ a) :
    Memory.byteAt (sparseInsert m a v) b = Memory.byteAt m b := by
  simp only [Memory.byteAt, sparseFind_insert_other m v h]

/-- A memory write keeps the canonical form (rule: log entry 3). -/
theorem Memory.wf_insert (m : Memory) (a : Nat) (v : Byte) (h : Memory.wf m = true) :
    Memory.wf (sparseInsert m a v) = true := sparseWf_insert m a v h

theorem Memory.canonical_insert (m : Memory) (a : Nat) (v : Byte) (ha : isMemAddr a = true)
    (h : Memory.canonical m = true) : Memory.canonical (sparseInsert m a v) = true := by
  simp only [Memory.canonical, Bool.and_eq_true] at h ⊢
  exact ⟨Memory.wf_insert m a v h.1, sparseInsert_all isMemAddr m a v ha h.2⟩

theorem FrameBuf.canonical_insert (fb : FrameBuf) (n : Nat) (px : BitVec 2) (hn : n < 160 * 144)
    (h : FrameBuf.canonical fb = true) : FrameBuf.canonical (sparseInsert fb n px) = true := by
  simp only [FrameBuf.canonical, Bool.and_eq_true] at h ⊢
  exact ⟨sparseWf_insert fb n px h.1, sparseInsert_all (fun n => decide (n < 160 * 144)) fb n px (by simpa using hn) h.2⟩

/-- Reset memory is in canonical form. -/
theorem reset_mem_wf : Memory.wf State.reset.mem = true := rfl

end Sys2Proof.Machine
end

