-- ==== Sys2Proof/Laws/State.lean ====
section
/-! SUPPORT. One lemma per field per update, and what the operations that branch leave alone: no later proof unfolds a
record update. -/

namespace Sys2Proof.Machine

/-! ## setPc -/

@[simp] theorem State.setPc_cpu (s : State) (a : Word) : (s.setPc a).cpu = { s.cpu with pc := a } := rfl
@[simp] theorem State.setPc_irq (s : State) (a : Word) : (s.setPc a).irq = s.irq := rfl
@[simp] theorem State.setPc_timer (s : State) (a : Word) : (s.setPc a).timer = s.timer := rfl
@[simp] theorem State.setPc_dma (s : State) (a : Word) : (s.setPc a).dma = s.dma := rfl
@[simp] theorem State.setPc_ppu (s : State) (a : Word) : (s.setPc a).ppu = s.ppu := rfl
@[simp] theorem State.setPc_fetcher (s : State) (a : Word) : (s.setPc a).fetcher = s.fetcher := rfl
@[simp] theorem State.setPc_mem (s : State) (a : Word) : (s.setPc a).mem = s.mem := rfl
@[simp] theorem State.setPc_cart (s : State) (a : Word) : (s.setPc a).cart = s.cart := rfl
@[simp] theorem State.setPc_framebuf (s : State) (a : Word) : (s.setPc a).framebuf = s.framebuf := rfl
@[simp] theorem State.setPc_frames (s : State) (a : Word) : (s.setPc a).frames = s.frames := rfl
@[simp] theorem State.setPc_extWrites (s : State) (a : Word) : (s.setPc a).extWrites = s.extWrites := rfl
@[simp] theorem State.setPc_cycles (s : State) (a : Word) : (s.setPc a).cycles = s.cycles := rfl
@[simp] theorem State.setPc_mcycles (s : State) (a : Word) : (s.setPc a).mcycles = s.mcycles := rfl
@[simp] theorem State.setPc_extReads (s : State) (a : Word) : (s.setPc a).extReads = s.extReads := rfl
@[simp] theorem State.setPc_extTurns (s : State) (a : Word) : (s.setPc a).extTurns = s.extTurns := rfl
@[simp] theorem State.setPc_extRequests (s : State) (a : Word) : (s.setPc a).extRequests = s.extRequests := rfl

/-! ## setSp -/

@[simp] theorem State.setSp_cpu (s : State) (v : Word) : (s.setSp v).cpu = { s.cpu with sp := v } := rfl
@[simp] theorem State.setSp_irq (s : State) (v : Word) : (s.setSp v).irq = s.irq := rfl
@[simp] theorem State.setSp_timer (s : State) (v : Word) : (s.setSp v).timer = s.timer := rfl
@[simp] theorem State.setSp_dma (s : State) (v : Word) : (s.setSp v).dma = s.dma := rfl
@[simp] theorem State.setSp_ppu (s : State) (v : Word) : (s.setSp v).ppu = s.ppu := rfl
@[simp] theorem State.setSp_fetcher (s : State) (v : Word) : (s.setSp v).fetcher = s.fetcher := rfl
@[simp] theorem State.setSp_mem (s : State) (v : Word) : (s.setSp v).mem = s.mem := rfl
@[simp] theorem State.setSp_cart (s : State) (v : Word) : (s.setSp v).cart = s.cart := rfl
@[simp] theorem State.setSp_framebuf (s : State) (v : Word) : (s.setSp v).framebuf = s.framebuf := rfl
@[simp] theorem State.setSp_frames (s : State) (v : Word) : (s.setSp v).frames = s.frames := rfl
@[simp] theorem State.setSp_extWrites (s : State) (v : Word) : (s.setSp v).extWrites = s.extWrites := rfl
@[simp] theorem State.setSp_cycles (s : State) (v : Word) : (s.setSp v).cycles = s.cycles := rfl
@[simp] theorem State.setSp_mcycles (s : State) (v : Word) : (s.setSp v).mcycles = s.mcycles := rfl
@[simp] theorem State.setSp_extReads (s : State) (v : Word) : (s.setSp v).extReads = s.extReads := rfl
@[simp] theorem State.setSp_extTurns (s : State) (v : Word) : (s.setSp v).extTurns = s.extTurns := rfl
@[simp] theorem State.setSp_extRequests (s : State) (v : Word) : (s.setSp v).extRequests = s.extRequests := rfl

/-! ## cost -/

@[simp] theorem State.cost_cpu (s : State) (n : Nat) : (s.cost n).cpu = s.cpu := rfl
@[simp] theorem State.cost_irq (s : State) (n : Nat) : (s.cost n).irq = s.irq := rfl
@[simp] theorem State.cost_timer (s : State) (n : Nat) : (s.cost n).timer = s.timer := rfl
@[simp] theorem State.cost_dma (s : State) (n : Nat) : (s.cost n).dma = s.dma := rfl
@[simp] theorem State.cost_ppu (s : State) (n : Nat) : (s.cost n).ppu = s.ppu := rfl
@[simp] theorem State.cost_fetcher (s : State) (n : Nat) : (s.cost n).fetcher = s.fetcher := rfl
@[simp] theorem State.cost_mem (s : State) (n : Nat) : (s.cost n).mem = s.mem := rfl
@[simp] theorem State.cost_cart (s : State) (n : Nat) : (s.cost n).cart = s.cart := rfl
@[simp] theorem State.cost_framebuf (s : State) (n : Nat) : (s.cost n).framebuf = s.framebuf := rfl
@[simp] theorem State.cost_frames (s : State) (n : Nat) : (s.cost n).frames = s.frames := rfl
@[simp] theorem State.cost_extWrites (s : State) (n : Nat) : (s.cost n).extWrites = s.extWrites := rfl
@[simp] theorem State.cost_cycles (s : State) (n : Nat) : (s.cost n).cycles = s.cycles := rfl
@[simp] theorem State.cost_mcycles (s : State) (n : Nat) : (s.cost n).mcycles = n := rfl
@[simp] theorem State.cost_extReads (s : State) (n : Nat) : (s.cost n).extReads = s.extReads := rfl
@[simp] theorem State.cost_extTurns (s : State) (n : Nat) : (s.cost n).extTurns = s.extTurns := rfl
@[simp] theorem State.cost_extRequests (s : State) (n : Nat) : (s.cost n).extRequests = s.extRequests := rfl

/-! ## noteRead -/

@[simp] theorem State.noteRead_cpu (s : State) (a : Word) : (s.noteRead a).cpu = s.cpu := rfl
@[simp] theorem State.noteRead_irq (s : State) (a : Word) : (s.noteRead a).irq = s.irq := rfl
@[simp] theorem State.noteRead_timer (s : State) (a : Word) : (s.noteRead a).timer = s.timer := rfl
@[simp] theorem State.noteRead_dma (s : State) (a : Word) : (s.noteRead a).dma = s.dma := rfl
@[simp] theorem State.noteRead_ppu (s : State) (a : Word) : (s.noteRead a).ppu = s.ppu := rfl
@[simp] theorem State.noteRead_fetcher (s : State) (a : Word) : (s.noteRead a).fetcher = s.fetcher := rfl
@[simp] theorem State.noteRead_mem (s : State) (a : Word) : (s.noteRead a).mem = s.mem := rfl
@[simp] theorem State.noteRead_cart (s : State) (a : Word) : (s.noteRead a).cart = s.cart := rfl
@[simp] theorem State.noteRead_framebuf (s : State) (a : Word) : (s.noteRead a).framebuf = s.framebuf := rfl
@[simp] theorem State.noteRead_frames (s : State) (a : Word) : (s.noteRead a).frames = s.frames := rfl
@[simp] theorem State.noteRead_extWrites (s : State) (a : Word) : (s.noteRead a).extWrites = s.extWrites := rfl
@[simp] theorem State.noteRead_cycles (s : State) (a : Word) : (s.noteRead a).cycles = s.cycles := rfl
@[simp] theorem State.noteRead_mcycles (s : State) (a : Word) : (s.noteRead a).mcycles = s.mcycles := rfl
@[simp] theorem State.noteRead_extReads (s : State) (a : Word) : (s.noteRead a).extReads = s.extReads + extAnswers a := rfl
@[simp] theorem State.noteRead_extTurns (s : State) (a : Word) : (s.noteRead a).extTurns = s.extTurns := rfl
@[simp] theorem State.noteRead_extRequests (s : State) (a : Word) : (s.noteRead a).extRequests = s.extRequests := rfl

/-! ## storeByte -/

@[simp] theorem State.storeByte_cpu (s : State) (a : Nat) (v : Byte) : (s.storeByte a v).cpu = s.cpu := rfl
@[simp] theorem State.storeByte_irq (s : State) (a : Nat) (v : Byte) : (s.storeByte a v).irq = s.irq := rfl
@[simp] theorem State.storeByte_timer (s : State) (a : Nat) (v : Byte) : (s.storeByte a v).timer = s.timer := rfl
@[simp] theorem State.storeByte_dma (s : State) (a : Nat) (v : Byte) : (s.storeByte a v).dma = s.dma := rfl
@[simp] theorem State.storeByte_ppu (s : State) (a : Nat) (v : Byte) : (s.storeByte a v).ppu = s.ppu := rfl
@[simp] theorem State.storeByte_fetcher (s : State) (a : Nat) (v : Byte) : (s.storeByte a v).fetcher = s.fetcher := rfl
@[simp] theorem State.storeByte_mem (s : State) (a : Nat) (v : Byte) : (s.storeByte a v).mem = sparseInsert s.mem a v := rfl
@[simp] theorem State.storeByte_cart (s : State) (a : Nat) (v : Byte) : (s.storeByte a v).cart = s.cart := rfl
@[simp] theorem State.storeByte_framebuf (s : State) (a : Nat) (v : Byte) : (s.storeByte a v).framebuf = s.framebuf := rfl
@[simp] theorem State.storeByte_frames (s : State) (a : Nat) (v : Byte) : (s.storeByte a v).frames = s.frames := rfl
@[simp] theorem State.storeByte_extWrites (s : State) (a : Nat) (v : Byte) : (s.storeByte a v).extWrites = s.extWrites := rfl
@[simp] theorem State.storeByte_cycles (s : State) (a : Nat) (v : Byte) : (s.storeByte a v).cycles = s.cycles := rfl
@[simp] theorem State.storeByte_mcycles (s : State) (a : Nat) (v : Byte) : (s.storeByte a v).mcycles = s.mcycles := rfl
@[simp] theorem State.storeByte_extReads (s : State) (a : Nat) (v : Byte) : (s.storeByte a v).extReads = s.extReads := rfl
@[simp] theorem State.storeByte_extTurns (s : State) (a : Nat) (v : Byte) : (s.storeByte a v).extTurns = s.extTurns := rfl
@[simp] theorem State.storeByte_extRequests (s : State) (a : Nat) (v : Byte) : (s.storeByte a v).extRequests = s.extRequests := rfl

/-! ## request -/

@[simp] theorem State.request_cpu (s : State) (i : Nat) : (s.request i).cpu = s.cpu := rfl
@[simp] theorem State.request_irq (s : State) (i : Nat) : (s.request i).irq = { s.irq with req := s.irq.req ||| (1 : BitVec 5) <<< i } := rfl
@[simp] theorem State.request_timer (s : State) (i : Nat) : (s.request i).timer = s.timer := rfl
@[simp] theorem State.request_dma (s : State) (i : Nat) : (s.request i).dma = s.dma := rfl
@[simp] theorem State.request_ppu (s : State) (i : Nat) : (s.request i).ppu = s.ppu := rfl
@[simp] theorem State.request_fetcher (s : State) (i : Nat) : (s.request i).fetcher = s.fetcher := rfl
@[simp] theorem State.request_mem (s : State) (i : Nat) : (s.request i).mem = s.mem := rfl
@[simp] theorem State.request_cart (s : State) (i : Nat) : (s.request i).cart = s.cart := rfl
@[simp] theorem State.request_framebuf (s : State) (i : Nat) : (s.request i).framebuf = s.framebuf := rfl
@[simp] theorem State.request_frames (s : State) (i : Nat) : (s.request i).frames = s.frames := rfl
@[simp] theorem State.request_extWrites (s : State) (i : Nat) : (s.request i).extWrites = s.extWrites := rfl
@[simp] theorem State.request_cycles (s : State) (i : Nat) : (s.request i).cycles = s.cycles := rfl
@[simp] theorem State.request_mcycles (s : State) (i : Nat) : (s.request i).mcycles = s.mcycles := rfl
@[simp] theorem State.request_extReads (s : State) (i : Nat) : (s.request i).extReads = s.extReads := rfl
@[simp] theorem State.request_extTurns (s : State) (i : Nat) : (s.request i).extTurns = s.extTurns := rfl
@[simp] theorem State.request_extRequests (s : State) (i : Nat) : (s.request i).extRequests = s.extRequests := rfl

/-! ## raiseFatal -/

@[simp] theorem State.raiseFatal_cpu (s : State) (pc : Word) (r : FatalReason) : (s.raiseFatal pc r).cpu = { s.cpu with pc := pc, fatal := some r } := rfl
@[simp] theorem State.raiseFatal_irq (s : State) (pc : Word) (r : FatalReason) : (s.raiseFatal pc r).irq = s.irq := rfl
@[simp] theorem State.raiseFatal_timer (s : State) (pc : Word) (r : FatalReason) : (s.raiseFatal pc r).timer = s.timer := rfl
@[simp] theorem State.raiseFatal_dma (s : State) (pc : Word) (r : FatalReason) : (s.raiseFatal pc r).dma = s.dma := rfl
@[simp] theorem State.raiseFatal_ppu (s : State) (pc : Word) (r : FatalReason) : (s.raiseFatal pc r).ppu = s.ppu := rfl
@[simp] theorem State.raiseFatal_fetcher (s : State) (pc : Word) (r : FatalReason) : (s.raiseFatal pc r).fetcher = s.fetcher := rfl
@[simp] theorem State.raiseFatal_mem (s : State) (pc : Word) (r : FatalReason) : (s.raiseFatal pc r).mem = s.mem := rfl
@[simp] theorem State.raiseFatal_cart (s : State) (pc : Word) (r : FatalReason) : (s.raiseFatal pc r).cart = s.cart := rfl
@[simp] theorem State.raiseFatal_framebuf (s : State) (pc : Word) (r : FatalReason) : (s.raiseFatal pc r).framebuf = s.framebuf := rfl
@[simp] theorem State.raiseFatal_frames (s : State) (pc : Word) (r : FatalReason) : (s.raiseFatal pc r).frames = s.frames := rfl
@[simp] theorem State.raiseFatal_extWrites (s : State) (pc : Word) (r : FatalReason) : (s.raiseFatal pc r).extWrites = s.extWrites := rfl
@[simp] theorem State.raiseFatal_cycles (s : State) (pc : Word) (r : FatalReason) : (s.raiseFatal pc r).cycles = s.cycles := rfl
@[simp] theorem State.raiseFatal_mcycles (s : State) (pc : Word) (r : FatalReason) : (s.raiseFatal pc r).mcycles = s.mcycles := rfl
@[simp] theorem State.raiseFatal_extReads (s : State) (pc : Word) (r : FatalReason) : (s.raiseFatal pc r).extReads = s.extReads := rfl
@[simp] theorem State.raiseFatal_extTurns (s : State) (pc : Word) (r : FatalReason) : (s.raiseFatal pc r).extTurns = s.extTurns := rfl
@[simp] theorem State.raiseFatal_extRequests (s : State) (pc : Word) (r : FatalReason) : (s.raiseFatal pc r).extRequests = s.extRequests := rfl

/-! ## extTurn: the environment touches IF and its own fields only -/

@[simp] theorem State.extTurn_cpu (s : State) : s.extTurn.cpu = s.cpu := rfl
@[simp] theorem State.extTurn_irq (s : State) : s.extTurn.irq = { s.irq with req := s.irq.req ||| s.extRequest.bits } := rfl
@[simp] theorem State.extTurn_timer (s : State) : s.extTurn.timer = s.timer := rfl
@[simp] theorem State.extTurn_dma (s : State) : s.extTurn.dma = s.dma := rfl
@[simp] theorem State.extTurn_ppu (s : State) : s.extTurn.ppu = s.ppu := rfl
@[simp] theorem State.extTurn_fetcher (s : State) : s.extTurn.fetcher = s.fetcher := rfl
@[simp] theorem State.extTurn_mem (s : State) : s.extTurn.mem = s.mem := rfl
@[simp] theorem State.extTurn_cart (s : State) : s.extTurn.cart = s.cart := rfl
@[simp] theorem State.extTurn_framebuf (s : State) : s.extTurn.framebuf = s.framebuf := rfl
@[simp] theorem State.extTurn_frames (s : State) : s.extTurn.frames = s.frames := rfl
@[simp] theorem State.extTurn_extWrites (s : State) : s.extTurn.extWrites = s.extWrites := rfl
@[simp] theorem State.extTurn_cycles (s : State) : s.extTurn.cycles = s.cycles := rfl
@[simp] theorem State.extTurn_mcycles (s : State) : s.extTurn.mcycles = s.mcycles := rfl
@[simp] theorem State.extTurn_extReads (s : State) : s.extTurn.extReads = s.extReads := rfl
@[simp] theorem State.extTurn_extTurns (s : State) : s.extTurn.extTurns = s.extTurns + 1 := rfl
@[simp] theorem State.extTurn_extRequests (s : State) : s.extTurn.extRequests = s.extRequests.tail := rfl

/-- A request sets bits 3 and 4 at most (rule R408). -/
@[simp] theorem ExtRequest.bits_getLsbD (r : ExtRequest) (i : Nat) :
    r.bits.getLsbD i = (r.serial && decide (i = 3) || r.joypad && decide (i = 4)) := by
  rcases r with ⟨_ | _, _ | _⟩
  all_goals
    by_cases h : i < 5
    · interval_cases i <;> rfl
    · rw [BitVec.getLsbD_of_ge _ _ (by omega)]
      simp
      try omega

/-! ## ioWrite: what it never changes -/

@[simp] theorem State.ioWrite_cpu (s : State) (a : Word) (v : Byte) : (s.ioWrite a v).cpu = s.cpu := by
  unfold State.ioWrite; split <;> rfl
@[simp] theorem State.ioWrite_fetcher (s : State) (a : Word) (v : Byte) : (s.ioWrite a v).fetcher = s.fetcher := by
  unfold State.ioWrite; split <;> rfl
@[simp] theorem State.ioWrite_framebuf (s : State) (a : Word) (v : Byte) : (s.ioWrite a v).framebuf = s.framebuf := by
  unfold State.ioWrite; split <;> rfl
@[simp] theorem State.ioWrite_frames (s : State) (a : Word) (v : Byte) : (s.ioWrite a v).frames = s.frames := by
  unfold State.ioWrite; split <;> rfl
@[simp] theorem State.ioWrite_cycles (s : State) (a : Word) (v : Byte) : (s.ioWrite a v).cycles = s.cycles := by
  unfold State.ioWrite; split <;> rfl
@[simp] theorem State.ioWrite_mcycles (s : State) (a : Word) (v : Byte) : (s.ioWrite a v).mcycles = s.mcycles := by
  unfold State.ioWrite; split <;> rfl
@[simp] theorem State.ioWrite_extReads (s : State) (a : Word) (v : Byte) : (s.ioWrite a v).extReads = s.extReads := by
  unfold State.ioWrite; split <;> rfl
@[simp] theorem State.ioWrite_extTurns (s : State) (a : Word) (v : Byte) : (s.ioWrite a v).extTurns = s.extTurns := by
  unfold State.ioWrite; split <;> rfl
@[simp] theorem State.ioWrite_extRequests (s : State) (a : Word) (v : Byte) : (s.ioWrite a v).extRequests = s.extRequests := by
  unfold State.ioWrite; split <;> rfl
@[simp] theorem State.ioWrite_ppu_ly (s : State) (a : Word) (v : Byte) : (s.ioWrite a v).ppu.ly = s.ppu.ly := by
  unfold State.ioWrite; split <;> rfl
@[simp] theorem State.ioWrite_ppu_mode (s : State) (a : Word) (v : Byte) : (s.ioWrite a v).ppu.mode = s.ppu.mode := by
  unfold State.ioWrite; split <;> rfl
@[simp] theorem State.ioWrite_ppu_lineDot (s : State) (a : Word) (v : Byte) : (s.ioWrite a v).ppu.lineDot = s.ppu.lineDot := by
  unfold State.ioWrite; split <;> rfl
@[simp] theorem State.ioWrite_ppu_windowLine (s : State) (a : Word) (v : Byte) : (s.ioWrite a v).ppu.windowLine = s.ppu.windowLine := by
  unfold State.ioWrite; split <;> rfl
@[simp] theorem State.ioWrite_ppu_windowUsed (s : State) (a : Word) (v : Byte) : (s.ioWrite a v).ppu.windowUsed = s.ppu.windowUsed := by
  unfold State.ioWrite; split <;> rfl
@[simp] theorem State.ioWrite_ppu_lineSprites (s : State) (a : Word) (v : Byte) : (s.ioWrite a v).ppu.lineSprites = s.ppu.lineSprites := by
  unfold State.ioWrite; split <;> rfl
@[simp] theorem State.ioWrite_ppu_lycFlag (s : State) (a : Word) (v : Byte) : (s.ioWrite a v).ppu.lycFlag = s.ppu.lycFlag := by
  unfold State.ioWrite; split <;> rfl
@[simp] theorem State.ioWrite_mem (s : State) (a : Word) (v : Byte) : (s.ioWrite a v).mem = s.mem := by
  unfold State.ioWrite; split <;> rfl
@[simp] theorem State.ioWrite_cart (s : State) (a : Word) (v : Byte) : (s.ioWrite a v).cart = s.cart := by
  unfold State.ioWrite; split <;> rfl
@[simp] theorem State.ioWrite_irq_enable (s : State) (a : Word) (v : Byte) : (s.ioWrite a v).irq.enable = s.irq.enable := by
  unfold State.ioWrite; split <;> rfl

/-! ## busWrite: what it never changes -/

@[simp] theorem State.busWrite_cpu (s : State) (a : Word) (v : Byte) : (s.busWrite a v).cpu = s.cpu := by
  unfold State.busWrite; split <;> first | rfl | (split <;> rfl) | simp
@[simp] theorem State.busWrite_fetcher (s : State) (a : Word) (v : Byte) : (s.busWrite a v).fetcher = s.fetcher := by
  unfold State.busWrite; split <;> first | rfl | (split <;> rfl) | simp
@[simp] theorem State.busWrite_framebuf (s : State) (a : Word) (v : Byte) : (s.busWrite a v).framebuf = s.framebuf := by
  unfold State.busWrite; split <;> first | rfl | (split <;> rfl) | simp
@[simp] theorem State.busWrite_frames (s : State) (a : Word) (v : Byte) : (s.busWrite a v).frames = s.frames := by
  unfold State.busWrite; split <;> first | rfl | (split <;> rfl) | simp
@[simp] theorem State.busWrite_cycles (s : State) (a : Word) (v : Byte) : (s.busWrite a v).cycles = s.cycles := by
  unfold State.busWrite; split <;> first | rfl | (split <;> rfl) | simp
@[simp] theorem State.busWrite_mcycles (s : State) (a : Word) (v : Byte) : (s.busWrite a v).mcycles = s.mcycles := by
  unfold State.busWrite; split <;> first | rfl | (split <;> rfl) | simp
@[simp] theorem State.busWrite_extReads (s : State) (a : Word) (v : Byte) : (s.busWrite a v).extReads = s.extReads := by
  unfold State.busWrite; split <;> first | rfl | (split <;> rfl) | simp
@[simp] theorem State.busWrite_extTurns (s : State) (a : Word) (v : Byte) : (s.busWrite a v).extTurns = s.extTurns := by
  unfold State.busWrite; split <;> first | rfl | (split <;> rfl) | simp
@[simp] theorem State.busWrite_extRequests (s : State) (a : Word) (v : Byte) : (s.busWrite a v).extRequests = s.extRequests := by
  unfold State.busWrite; split <;> first | rfl | (split <;> rfl) | simp
@[simp] theorem State.busWrite_ppu_ly (s : State) (a : Word) (v : Byte) : (s.busWrite a v).ppu.ly = s.ppu.ly := by
  unfold State.busWrite; split <;> first | rfl | (split <;> rfl) | simp
@[simp] theorem State.busWrite_ppu_mode (s : State) (a : Word) (v : Byte) : (s.busWrite a v).ppu.mode = s.ppu.mode := by
  unfold State.busWrite; split <;> first | rfl | (split <;> rfl) | simp
@[simp] theorem State.busWrite_ppu_lineDot (s : State) (a : Word) (v : Byte) : (s.busWrite a v).ppu.lineDot = s.ppu.lineDot := by
  unfold State.busWrite; split <;> first | rfl | (split <;> rfl) | simp
@[simp] theorem State.busWrite_ppu_windowLine (s : State) (a : Word) (v : Byte) : (s.busWrite a v).ppu.windowLine = s.ppu.windowLine := by
  unfold State.busWrite; split <;> first | rfl | (split <;> rfl) | simp
@[simp] theorem State.busWrite_ppu_windowUsed (s : State) (a : Word) (v : Byte) : (s.busWrite a v).ppu.windowUsed = s.ppu.windowUsed := by
  unfold State.busWrite; split <;> first | rfl | (split <;> rfl) | simp
@[simp] theorem State.busWrite_ppu_lineSprites (s : State) (a : Word) (v : Byte) : (s.busWrite a v).ppu.lineSprites = s.ppu.lineSprites := by
  unfold State.busWrite; split <;> first | rfl | (split <;> rfl) | simp
@[simp] theorem State.busWrite_ppu_lycFlag (s : State) (a : Word) (v : Byte) : (s.busWrite a v).ppu.lycFlag = s.ppu.lycFlag := by
  unfold State.busWrite; split <;> first | rfl | (split <;> rfl) | simp

/-! ## Stack and interrupt entry -/

@[simp] theorem State.push16_fetcher (s : State) (v : Word) : (s.push16 v).fetcher = s.fetcher := by
  simp [State.push16]
@[simp] theorem State.push16_framebuf (s : State) (v : Word) : (s.push16 v).framebuf = s.framebuf := by
  simp [State.push16]
@[simp] theorem State.push16_frames (s : State) (v : Word) : (s.push16 v).frames = s.frames := by
  simp [State.push16]
@[simp] theorem State.push16_cycles (s : State) (v : Word) : (s.push16 v).cycles = s.cycles := by
  simp [State.push16]
@[simp] theorem State.push16_mcycles (s : State) (v : Word) : (s.push16 v).mcycles = s.mcycles := by
  simp [State.push16]
@[simp] theorem State.push16_extReads (s : State) (v : Word) : (s.push16 v).extReads = s.extReads := by
  simp [State.push16]
@[simp] theorem State.push16_extTurns (s : State) (v : Word) : (s.push16 v).extTurns = s.extTurns := by
  simp [State.push16]
@[simp] theorem State.push16_extRequests (s : State) (v : Word) : (s.push16 v).extRequests = s.extRequests := by
  simp [State.push16]
@[simp] theorem State.push16_ppu_ly (s : State) (v : Word) : (s.push16 v).ppu.ly = s.ppu.ly := by
  simp [State.push16]
@[simp] theorem State.push16_ppu_mode (s : State) (v : Word) : (s.push16 v).ppu.mode = s.ppu.mode := by
  simp [State.push16]
@[simp] theorem State.push16_ppu_lineDot (s : State) (v : Word) : (s.push16 v).ppu.lineDot = s.ppu.lineDot := by
  simp [State.push16]
@[simp] theorem State.push16_ppu_windowLine (s : State) (v : Word) : (s.push16 v).ppu.windowLine = s.ppu.windowLine := by
  simp [State.push16]
@[simp] theorem State.push16_ppu_windowUsed (s : State) (v : Word) : (s.push16 v).ppu.windowUsed = s.ppu.windowUsed := by
  simp [State.push16]
@[simp] theorem State.push16_ppu_lineSprites (s : State) (v : Word) : (s.push16 v).ppu.lineSprites = s.ppu.lineSprites := by
  simp [State.push16]
@[simp] theorem State.push16_ppu_lycFlag (s : State) (v : Word) : (s.push16 v).ppu.lycFlag = s.ppu.lycFlag := by
  simp [State.push16]

/-- A push moves SP by 2 and no other CPU register (rule R238). -/
@[simp] theorem State.push16_cpu (s : State) (v : Word) : (s.push16 v).cpu = { s.cpu with sp := s.cpu.sp - 1 - 1 } := by
  simp [State.push16]

@[simp] theorem State.pop16_irq (s : State) : s.pop16.2.irq = s.irq := rfl
@[simp] theorem State.pop16_timer (s : State) : s.pop16.2.timer = s.timer := rfl
@[simp] theorem State.pop16_dma (s : State) : s.pop16.2.dma = s.dma := rfl
@[simp] theorem State.pop16_ppu (s : State) : s.pop16.2.ppu = s.ppu := rfl
@[simp] theorem State.pop16_fetcher (s : State) : s.pop16.2.fetcher = s.fetcher := rfl
@[simp] theorem State.pop16_mem (s : State) : s.pop16.2.mem = s.mem := rfl
@[simp] theorem State.pop16_cart (s : State) : s.pop16.2.cart = s.cart := rfl
@[simp] theorem State.pop16_framebuf (s : State) : s.pop16.2.framebuf = s.framebuf := rfl
@[simp] theorem State.pop16_frames (s : State) : s.pop16.2.frames = s.frames := rfl
@[simp] theorem State.pop16_extWrites (s : State) : s.pop16.2.extWrites = s.extWrites := rfl
@[simp] theorem State.pop16_cycles (s : State) : s.pop16.2.cycles = s.cycles := rfl
@[simp] theorem State.pop16_mcycles (s : State) : s.pop16.2.mcycles = s.mcycles := rfl
@[simp] theorem State.pop16_extTurns (s : State) : s.pop16.2.extTurns = s.extTurns := rfl
@[simp] theorem State.pop16_extRequests (s : State) : s.pop16.2.extRequests = s.extRequests := rfl

/-- A pop moves SP by 2 and no other CPU register (rule R239). -/
@[simp] theorem State.pop16_cpu (s : State) : s.pop16.2.cpu = { s.cpu with sp := s.cpu.sp + 1 + 1 } := rfl

/-- A pop takes the oracle's answers of its two reads. -/
@[simp] theorem State.pop16_extReads (s : State) :
    s.pop16.2.extReads = s.extReads + extAnswers s.cpu.sp + extAnswers (s.cpu.sp + 1) := rfl

/-- The value popped: the low byte at SP, the high byte at SP + 1 (rule R239). -/
theorem State.pop16_value (s : State) :
    s.pop16.1 = Word.ofBytes ((s.noteRead s.cpu.sp).busRead (s.cpu.sp + 1)) (s.busRead s.cpu.sp) := rfl

/-- The CPU after an interrupt is taken (rules R427 and R430). -/
@[simp] theorem State.takeInterrupt_cpu (s : State) (i : Nat) : (s.takeInterrupt i).cpu =
    { s.cpu with sp := s.cpu.sp - 1 - 1, pc := vector i, ime := false, halted := false } := by
  simp [State.takeInterrupt]

@[simp] theorem State.takeInterrupt_fetcher (s : State) (i : Nat) : (s.takeInterrupt i).fetcher = s.fetcher := by
  simp [State.takeInterrupt]
@[simp] theorem State.takeInterrupt_framebuf (s : State) (i : Nat) : (s.takeInterrupt i).framebuf = s.framebuf := by
  simp [State.takeInterrupt]
@[simp] theorem State.takeInterrupt_frames (s : State) (i : Nat) : (s.takeInterrupt i).frames = s.frames := by
  simp [State.takeInterrupt]
@[simp] theorem State.takeInterrupt_cycles (s : State) (i : Nat) : (s.takeInterrupt i).cycles = s.cycles := by
  simp [State.takeInterrupt]
@[simp] theorem State.takeInterrupt_mcycles (s : State) (i : Nat) : (s.takeInterrupt i).mcycles = s.mcycles := by
  simp [State.takeInterrupt]
@[simp] theorem State.takeInterrupt_extReads (s : State) (i : Nat) : (s.takeInterrupt i).extReads = s.extReads := by
  simp [State.takeInterrupt]
@[simp] theorem State.takeInterrupt_extTurns (s : State) (i : Nat) : (s.takeInterrupt i).extTurns = s.extTurns := by
  simp [State.takeInterrupt]
@[simp] theorem State.takeInterrupt_extRequests (s : State) (i : Nat) : (s.takeInterrupt i).extRequests = s.extRequests := by
  simp [State.takeInterrupt]
@[simp] theorem State.takeInterrupt_ppu_ly (s : State) (i : Nat) : (s.takeInterrupt i).ppu.ly = s.ppu.ly := by
  simp [State.takeInterrupt]
@[simp] theorem State.takeInterrupt_ppu_mode (s : State) (i : Nat) : (s.takeInterrupt i).ppu.mode = s.ppu.mode := by
  simp [State.takeInterrupt]
@[simp] theorem State.takeInterrupt_ppu_lineDot (s : State) (i : Nat) : (s.takeInterrupt i).ppu.lineDot = s.ppu.lineDot := by
  simp [State.takeInterrupt]
@[simp] theorem State.takeInterrupt_ppu_windowLine (s : State) (i : Nat) : (s.takeInterrupt i).ppu.windowLine = s.ppu.windowLine := by
  simp [State.takeInterrupt]
@[simp] theorem State.takeInterrupt_ppu_windowUsed (s : State) (i : Nat) : (s.takeInterrupt i).ppu.windowUsed = s.ppu.windowUsed := by
  simp [State.takeInterrupt]
@[simp] theorem State.takeInterrupt_ppu_lineSprites (s : State) (i : Nat) : (s.takeInterrupt i).ppu.lineSprites = s.ppu.lineSprites := by
  simp [State.takeInterrupt]
@[simp] theorem State.takeInterrupt_ppu_lycFlag (s : State) (i : Nat) : (s.takeInterrupt i).ppu.lycFlag = s.ppu.lycFlag := by
  simp [State.takeInterrupt]

end Sys2Proof.Machine
end

