-- ==== Sys2Proof/Laws/Bus.lean ====
section
/-! SUPPORT. Laws of the bus: which region an address is in, what a write does to each part of the state, read after
write, and that a write keeps storage canonical. -/

namespace Sys2Proof.Machine

/-! ## Regions as ranges (rule R81) -/

/-- What an address's region says of the address. -/
theorem region_spec (a : Word) :
    (region a = .rom ∧ a.toNat < 0x8000) ∨ (region a = .vram ∧ 0x8000 ≤ a.toNat ∧ a.toNat < 0xA000) ∨
    (region a = .cartRam ∧ 0xA000 ≤ a.toNat ∧ a.toNat < 0xC000) ∨
    (region a = .wram ∧ 0xC000 ≤ a.toNat ∧ a.toNat < 0xE000) ∨
    (region a = .echo ∧ 0xE000 ≤ a.toNat ∧ a.toNat < 0xFE00) ∨
    (region a = .oam ∧ 0xFE00 ≤ a.toNat ∧ a.toNat < 0xFEA0) ∨
    (region a = .unusable ∧ 0xFEA0 ≤ a.toNat ∧ a.toNat < 0xFF00) ∨
    (region a = .io ∧ 0xFF00 ≤ a.toNat ∧ a.toNat < 0xFF80) ∨
    (region a = .hram ∧ 0xFF80 ≤ a.toNat ∧ a.toNat < 0xFFFF) ∨ (region a = .ie ∧ a.toNat = 0xFFFF) := by
  have := a.isLt
  unfold region
  repeat' split
  all_goals simp_all
  all_goals omega

/-- The region of an address given as a range. -/
theorem region_of_range (a : Word) :
    (a.toNat < 0x8000 → region a = .rom) ∧ (0x8000 ≤ a.toNat → a.toNat < 0xA000 → region a = .vram) ∧
    (0xA000 ≤ a.toNat → a.toNat < 0xC000 → region a = .cartRam) ∧
    (0xC000 ≤ a.toNat → a.toNat < 0xE000 → region a = .wram) ∧
    (0xE000 ≤ a.toNat → a.toNat < 0xFE00 → region a = .echo) ∧
    (0xFE00 ≤ a.toNat → a.toNat < 0xFEA0 → region a = .oam) ∧
    (0xFEA0 ≤ a.toNat → a.toNat < 0xFF00 → region a = .unusable) ∧
    (0xFF00 ≤ a.toNat → a.toNat < 0xFF80 → region a = .io) ∧
    (0xFF80 ≤ a.toNat → a.toNat < 0xFFFF → region a = .hram) ∧ (a.toNat = 0xFFFF → region a = .ie) := by
  refine ⟨?_, ?_, ?_, ?_, ?_, ?_, ?_, ?_, ?_, ?_⟩ <;> intros <;> unfold region
  all_goals repeat (first | rw [if_pos (by omega)] | rw [if_neg (by omega)])

/-- The addresses of the four memories, by region (rules R59 to R62). -/
theorem isMemAddr_iff (a : Word) : isMemAddr a.toNat = true ↔
    region a = .vram ∨ region a = .wram ∨ region a = .oam ∨ region a = .hram := by
  have h := region_spec a
  simp only [isMemAddr, Bool.or_eq_true, Bool.and_eq_true, decide_eq_true_eq]
  rcases h with h | h | h | h | h | h | h | h | h | h <;> rw [h.1] <;> simp <;> omega

/-! ## What a write changes -/

theorem State.ioWrite_noteRead (s : State) (a b : Word) (v : Byte) :
    (s.noteRead b).ioWrite a v = (s.ioWrite a v).noteRead b := by
  unfold State.ioWrite; split <;> rfl

/-- The oracle's counter and a write do not meet. -/
theorem State.busWrite_noteRead (s : State) (a b : Word) (v : Byte) :
    (s.noteRead b).busWrite a v = (s.busWrite a v).noteRead b := by
  unfold State.busWrite
  split
  all_goals first
    | rfl
    | exact State.ioWrite_noteRead s a b v
    | (show (if s.oamBlocked = true then _ else _) = _; split <;> rfl)

/-- A write does not read the CPU. -/
theorem State.ioWrite_setCpu (s : State) (c : Cpu) (a : Word) (v : Byte) :
    { s with cpu := c }.ioWrite a v = { s.ioWrite a v with cpu := c } := by
  unfold State.ioWrite; split <;> rfl

/-- A write does not read the CPU. -/
theorem State.busWrite_setCpu (s : State) (c : Cpu) (a : Word) (v : Byte) :
    { s with cpu := c }.busWrite a v = { s.busWrite a v with cpu := c } := by
  unfold State.busWrite
  split
  all_goals first
    | rfl
    | exact State.ioWrite_setCpu s c a v
    | (show (if s.oamBlocked = true then _ else _) = _; split <;> rfl)

/-- A write stores into the memories at its own address or not at all (rules R81 and R86). -/
theorem State.busWrite_mem (s : State) (a : Word) (v : Byte) :
    (s.busWrite a v).mem =
      if isMemAddr a.toNat ∧ ¬ (region a = .oam ∧ s.oamBlocked = true) then sparseInsert s.mem a.toNat v
      else s.mem := by
  have hi := isMemAddr_iff a
  unfold State.busWrite
  split <;> rename_i h <;> simp only [h] at hi <;> simp [hi, h]
  split <;> simp_all

/-- Every other byte of the memories is unchanged. -/
theorem State.busWrite_byteAt_other (s : State) (a : Word) (v : Byte) {n : Nat} (h : n ≠ a.toNat) :
    (s.busWrite a v).mem.byteAt n = s.mem.byteAt n := by
  rw [State.busWrite_mem]
  split
  · exact Memory.byteAt_insert_other _ v h
  · rfl

/-- A write outside the cartridge's ranges leaves the cartridge alone, one inside is the cartridge's affair (rule R84). -/
theorem State.busWrite_cart (s : State) (a : Word) (v : Byte) :
    (s.busWrite a v).cart = if region a = .rom ∨ region a = .cartRam then s.cart.write a v else s.cart := by
  unfold State.busWrite
  split <;> rename_i h <;> simp [h]
  split <;> rfl

/-- A write outside the I/O range changes no device register. -/
theorem State.busWrite_devices (s : State) (a : Word) (v : Byte) (h : region a ≠ .io) :
    (s.busWrite a v).timer = s.timer ∧ (s.busWrite a v).dma = s.dma ∧ (s.busWrite a v).ppu = s.ppu ∧
    (s.busWrite a v).irq.req = s.irq.req ∧ (s.busWrite a v).extWrites = s.extWrites := by
  unfold State.busWrite
  split <;> first | contradiction | (split <;> simp) | simp

/-- Only a write to 0xFFFF changes IE (rule R31). -/
theorem State.busWrite_enable (s : State) (a : Word) (v : Byte) :
    (s.busWrite a v).irq.enable = if region a = .ie then v else s.irq.enable := by
  unfold State.busWrite
  split <;> rename_i h <;> simp [h]
  split <;> rfl

/-- A read of plain memory (rule R85). -/
theorem State.busRead_plain (s : State) (a : Word) (h : region a = .vram ∨ region a = .wram ∨ region a = .hram) :
    s.busRead a = s.mem.byteAt a.toNat := by
  rcases h with h | h | h <;> simp [State.busRead, h]

/-- Reading back what was written to plain memory (rule R85). -/
theorem State.busRead_busWrite_same (s : State) (a : Word) (v : Byte)
    (h : region a = .vram ∨ region a = .wram ∨ region a = .hram) : (s.busWrite a v).busRead a = v := by
  rcases h with h | h | h <;> simp [State.busRead, State.busWrite, h]

/-! ## Canonical storage -/

theorem Cart.canonical_write (c : Cart) (a : Word) (v : Byte) (h : c.canonical = true) :
    (c.write a v).canonical = true := by
  cases c <;> exact h

/-- A bus write keeps storage canonical. -/
theorem State.StoreOk.busWrite {s : State} (h : s.StoreOk) (a : Word) (v : Byte) : (s.busWrite a v).StoreOk := by
  refine ⟨?_, ?_, ?_, ?_⟩
  · rw [State.busWrite_mem]
    split
    · next hc => exact Memory.canonical_insert _ _ v hc.1 h.mem
    · exact h.mem
  · rw [State.busWrite_cart]
    split
    · exact Cart.canonical_write _ a v h.cart
    · exact h.cart
  · simpa using h.framebuf
  · simpa using h.frames

end Sys2Proof.Machine
end

