-- ==== Sys2Proof/Laws/Exec.lean ====
section
/-! SUPPORT. Every meaning is the operation its shape names: the one case split over all instructions, so that a proof
about `exec` is a proof about one shared operation. -/

namespace Sys2Proof.Machine

/-- The shared operation a shape names. -/
def shapeRun : Shape → State → State
  | .nop, s => opNop s
  | .halt, s => opHalt s
  | .stop, s => opStop s
  | .di, s => opDi s
  | .ei, s => opEi s
  | .illegal op, s => opIllegal op s
  | .ldRegReg dst src, s => opLdRegReg dst src s
  | .ldRegImm dst n, s => opLdRegImm dst n s
  | .ldRegHl dst, s => opLdRegHl dst s
  | .ldHlReg src, s => opLdHlReg src s
  | .ldHlImm n, s => opLdHlImm n s
  | .ldAInd p, s => opLdAInd p s
  | .ldIndA p, s => opLdIndA p s
  | .ldAHlStep st, s => opLdAHlStep st s
  | .ldHlStepA st, s => opLdHlStepA st s
  | .ldAAbs a, s => opLdAAbs a s
  | .ldAbsA a, s => opLdAbsA a s
  | .ldhA n, s => opLdhA n s
  | .ldhStoreA n, s => opLdhStoreA n s
  | .ldAHighC, s => opLdAHighC s
  | .ldHighCA, s => opLdHighCA s
  | .ldPairImm p v, s => opLdPairImm p v s
  | .ldAbsSp a, s => opLdAbsSp a s
  | .ldSpHl, s => opLdSpHl s
  | .ldHlSpE8 e, s => opLdHlSpE8 e s
  | .push p, s => opPush p s
  | .pop p, s => opPop p s
  | .alu op b, s => opAlu op b s
  | .incReg r, s => opIncReg r s
  | .incMem, s => opIncMem s
  | .decReg r, s => opDecReg r s
  | .decMem, s => opDecMem s
  | .daa, s => opDaa s
  | .cpl, s => opCpl s
  | .scf, s => opScf s
  | .ccf, s => opCcf s
  | .addHl p, s => opAddHl p s
  | .incPair p, s => opIncPair p s
  | .decPair p, s => opDecPair p s
  | .addSp e, s => opAddSp e s
  | .rotA op, s => opRotA op s
  | .rot op o, s => opRot op o s
  | .bit n o, s => opBit n o s
  | .res n o, s => opRes n o s
  | .setBit n o, s => opSet n o s
  | .jp a, s => opJp a s
  | .jpCond cc a, s => opJpCond cc a s
  | .jpHl, s => opJpHl s
  | .jr e, s => opJr e s
  | .jrCond cc e, s => opJrCond cc e s
  | .call a, s => opCall a s
  | .callCond cc a, s => opCallCond cc a s
  | .ret, s => opRet s
  | .retCond cc, s => opRetCond cc s
  | .reti, s => opReti s
  | .rst n, s => opRst n s

/-- Every instruction answers a next state: its shape's operation. -/
theorem exec_eq (i : Instr) (s : State) : exec i s = .next (shapeRun i.shape s) := by
  cases i <;> rfl

/-- The operation of an instruction whose shape is known. -/
theorem exec_of_shape {i : Instr} {sh : Shape} (h : i.shape = sh) (s : State) : exec i s = .next (shapeRun sh s) := by
  rw [exec_eq, h]

end Sys2Proof.Machine
end

