-- ==== Sys2Proof/Laws/Flags.lean ====
section
/-! SUPPORT. The result and flag computations on numbers: the XOR formulas of the rules are carries out of bits 3, 7, 11
and 15, and rotates are arithmetic (rules R250 to R267, R290, R293, R300 to R320). -/

namespace Sys2Proof.Machine

/-! ## Carries -/

theorem carryIn_toNat (c : Bool) : (carryIn c).toNat = c.toNat := by cases c <;> rfl

theorem zext_toNat (b : Byte) : (Byte.zext b).toNat = b.toNat := by
  have := b.isLt; simp [Byte.zext]; omega

/-- Bit `i` of a number. -/
theorem getLsbD_eq_div (w : Nat) (x : BitVec w) (i : Nat) : x.getLsbD i = decide (x.toNat / 2 ^ i % 2 = 1) := by
  simp [BitVec.getLsbD, Nat.testBit, Nat.shiftRight_eq_div_pow, Nat.one_and_eq_mod_two]
  rcases Nat.mod_two_eq_zero_or_one (x.toNat / 2 ^ i) with h | h <;> simp [h]

theorem testBit_eq_div (x i : Nat) : x.testBit i = decide (x / 2 ^ i % 2 = 1) := by
  simp [Nat.testBit, Nat.shiftRight_eq_div_pow, Nat.one_and_eq_mod_two]
  rcases Nat.mod_two_eq_zero_or_one (x / 2 ^ i) with h | h <;> simp [h]

/-- Bit `i` of `a ^ b ^ (a + b + c)` is the carry into bit `i`. -/
theorem carry_bit (a b c i : Nat) (hc : c ≤ 1) :
    ((a ^^^ b) ^^^ (a + b + c)).testBit i = decide (2 ^ i ≤ a % 2 ^ i + b % 2 ^ i + c) := by
  have hp : 0 < 2 ^ i := Nat.two_pow_pos i
  rw [Nat.testBit_xor, Nat.testBit_xor, testBit_eq_div, testBit_eq_div, testBit_eq_div]
  have ha := Nat.div_add_mod a (2 ^ i)
  have hb := Nat.div_add_mod b (2 ^ i)
  have hra := Nat.mod_lt a hp
  have hrb := Nat.mod_lt b hp
  generalize a % 2 ^ i = ra at *
  generalize b % 2 ^ i = rb at *
  generalize hqa : a / 2 ^ i = qa at *
  generalize hqb : b / 2 ^ i = qb at *
  have hsum : (a + b + c) / 2 ^ i = qa + qb + (if 2 ^ i ≤ ra + rb + c then 1 else 0) := by
    have e : a + b + c = (ra + rb + c) + 2 ^ i * (qa + qb) := by rw [Nat.mul_add]; omega
    rw [e, Nat.add_mul_div_left _ _ hp]
    split
    · next h =>
      have : (ra + rb + c) / 2 ^ i = 1 := by
        rw [Nat.div_eq_iff hp]; omega
      omega
    · next h =>
      have : (ra + rb + c) / 2 ^ i = 0 := Nat.div_eq_of_lt (by omega)
      omega
  rw [hsum]
  by_cases h : 2 ^ i ≤ ra + rb + c <;>
    rcases Nat.mod_two_eq_zero_or_one qa with h1 | h1 <;> rcases Nat.mod_two_eq_zero_or_one qb with h2 | h2 <;>
    simp [h, h1, h2, Nat.add_mod]

/-- Bit `i` of `a ^ b ^ r` with `r + b + c = a` modulo a power of two above bit `i` is the borrow into bit `i`. -/
theorem borrow_bit (a b c r i k : Nat) (hc : c ≤ 1) (hr : r + b + c = a + k * 2 ^ (i + 1)) :
    ((a ^^^ b) ^^^ r).testBit i = decide (a % 2 ^ i < b % 2 ^ i + c) := by
  have h := carry_bit r b c i hc
  have hp : 0 < 2 ^ i := Nat.two_pow_pos i
  have ha : (r + b + c).testBit i = a.testBit i := by
    rw [hr, testBit_eq_div, testBit_eq_div, Nat.pow_succ, ← Nat.mul_assoc, Nat.mul_right_comm,
      Nat.add_mul_div_right _ _ hp]
    congr 1
    simp
  have hm : (r % 2 ^ i + b % 2 ^ i + c) % 2 ^ i = a % 2 ^ i := by
    have : (r + b + c) % 2 ^ i = a % 2 ^ i := by
      rw [hr, Nat.pow_succ, ← Nat.mul_assoc, Nat.mul_right_comm, Nat.add_mul_mod_self_right]
    rw [← this]; simp [Nat.add_mod]
  rw [Nat.testBit_xor, Nat.testBit_xor] at h ⊢
  rw [ha] at h
  have h1 : ((a.testBit i ^^ b.testBit i) ^^ r.testBit i) = ((r.testBit i ^^ b.testBit i) ^^ a.testBit i) := by
    cases a.testBit i <;> cases b.testBit i <;> cases r.testBit i <;> rfl
  rw [h1, h]
  congr 1
  have hra := Nat.mod_lt r hp
  have hrb := Nat.mod_lt b hp
  generalize r % 2 ^ i = x at *
  generalize b % 2 ^ i = y at *
  generalize 2 ^ i = p at *
  rw [← hm, eq_iff_iff]
  by_cases hx : p ≤ x + y + c
  · have : (x + y + c) % p = x + y + c - p := by
      rw [Nat.mod_eq_sub_mod hx]
      by_cases h2 : x + y + c - p < p
      · exact Nat.mod_eq_of_lt h2
      · omega
    rw [this]
    constructor <;> intro <;> omega
  · rw [Nat.mod_eq_of_lt (by omega)]
    constructor <;> intro <;> omega

/-! ## Addition and subtraction -/

/-- `ADD` and `ADC` on numbers (rules R250 and R251). -/
theorem addWith_eq (a b : Byte) (cin : Bool) : addWith a b cin =
    (BitVec.ofNat 8 (a.toNat + b.toNat + cin.toNat),
     { z := decide ((a.toNat + b.toNat + cin.toNat) % 256 = 0), n := false
       h := decide (15 < a.toNat % 16 + b.toNat % 16 + cin.toNat)
       c := decide (255 < a.toNat + b.toNat + cin.toNat) }) := by
  have ha := a.isLt
  have hb := b.isLt
  have hc : cin.toNat ≤ 1 := Bool.toNat_le cin
  have hr : (Byte.zext a + Byte.zext b + carryIn cin).toNat = a.toNat + b.toNat + cin.toNat := by
    simp [BitVec.toNat_add, carryIn_toNat]; omega
  have hx : (xor3 a b (Byte.zext a + Byte.zext b + carryIn cin)).toNat =
      (a.toNat ^^^ b.toNat) ^^^ (a.toNat + b.toNat + cin.toNat) := by
    simp only [xor3, BitVec.toNat_xor, hr, zext_toNat]
  have hlo : Word.lo (Byte.zext a + Byte.zext b + carryIn cin) =
      BitVec.ofNat 8 (a.toNat + b.toNat + cin.toNat) := by
    apply BitVec.eq_of_toNat_eq
    simp only [Word.lo, BitVec.extractLsb'_toNat, hr, BitVec.toNat_ofNat, Nat.shiftRight_zero]
  have hz : (BitVec.ofNat 8 (a.toNat + b.toNat + cin.toNat) = 0#8) ↔ (a.toNat + b.toNat + cin.toNat) % 256 = 0 := by
    rw [← BitVec.toNat_inj]; simp
  have h4 := carry_bit a.toNat b.toNat cin.toNat 4 hc
  have h8 := carry_bit a.toNat b.toNat cin.toNat 8 hc
  simp only [addWith, hlo, BitVec.getLsbD, hx, h4, h8]
  simp only [Prod.mk.injEq, Flags.mk.injEq, decide_eq_decide, true_and]
  refine ⟨hz, ?_, ?_⟩ <;> omega

/-- `SUB`, `SBC` and `CP` on numbers (rules R252, R253, R257). -/
theorem subWith_eq (a b : Byte) (cin : Bool) : subWith a b cin =
    (BitVec.ofNat 8 ((a.toNat + 256 - (b.toNat + cin.toNat)) % 256),
     { z := decide ((a.toNat + 256 - (b.toNat + cin.toNat)) % 256 = 0), n := true
       h := decide (a.toNat % 16 < b.toNat % 16 + cin.toNat)
       c := decide (a.toNat < b.toNat + cin.toNat) }) := by
  have ha := a.isLt
  have hb := b.isLt
  have hc : cin.toNat ≤ 1 := Bool.toNat_le cin
  have hr : (Byte.zext a - Byte.zext b - carryIn cin).toNat =
      (a.toNat + 65536 - (b.toNat + cin.toNat)) % 65536 := by
    simp only [BitVec.toNat_sub, carryIn_toNat, zext_toNat]; omega
  have hx : (xor3 a b (Byte.zext a - Byte.zext b - carryIn cin)).toNat =
      (a.toNat ^^^ b.toNat) ^^^ ((a.toNat + 65536 - (b.toNat + cin.toNat)) % 65536) := by
    simp only [xor3, BitVec.toNat_xor, hr, zext_toNat]
  have hlo : Word.lo (Byte.zext a - Byte.zext b - carryIn cin) =
      BitVec.ofNat 8 ((a.toNat + 256 - (b.toNat + cin.toNat)) % 256) := by
    apply BitVec.eq_of_toNat_eq
    simp only [Word.lo, BitVec.extractLsb'_toNat, hr, BitVec.toNat_ofNat, Nat.shiftRight_zero]
    omega
  have hz : (BitVec.ofNat 8 ((a.toNat + 256 - (b.toNat + cin.toNat)) % 256) = 0#8) ↔
      (a.toNat + 256 - (b.toNat + cin.toNat)) % 256 = 0 := by
    rw [← BitVec.toNat_inj]; simp
  have key : ∀ i, i ≤ 8 → ((a.toNat ^^^ b.toNat) ^^^ ((a.toNat + 65536 - (b.toNat + cin.toNat)) % 65536)).testBit i =
      decide (a.toNat % 2 ^ i < b.toNat % 2 ^ i + cin.toNat) := by
    intro i hi
    by_cases hlt : a.toNat < b.toNat + cin.toNat
    · refine borrow_bit _ _ _ _ i (2 ^ (15 - i)) hc ?_
      have : 2 ^ (15 - i) * 2 ^ (i + 1) = 65536 := by
        rw [← Nat.pow_add, show 15 - i + (i + 1) = 16 by omega]
      rw [this]; omega
    · refine borrow_bit _ _ _ _ i 0 hc ?_
      omega
  simp only [subWith, hlo, BitVec.getLsbD, hx, key 4 (by omega), key 8 (by omega)]
  simp only [Prod.mk.injEq, Flags.mk.injEq, decide_eq_decide, true_and]
  refine ⟨hz, ?_, ?_⟩ <;> omega

/-- `ADD HL,rr` on numbers (rule R290). -/
theorem addHl_eq (a b : Word) (f : Flags) : addHl a b f =
    (BitVec.ofNat 16 (a.toNat + b.toNat),
     { z := f.z, n := false, h := decide (0xFFF < a.toNat % 0x1000 + b.toNat % 0x1000),
       c := decide (0xFFFF < a.toNat + b.toNat) }) := by
  have ha := a.isLt
  have hb := b.isLt
  have hr : (a.zeroExtend 32 + b.zeroExtend 32).toNat = a.toNat + b.toNat := by
    simp [BitVec.toNat_add]; omega
  have hza : (a.zeroExtend 32).toNat = a.toNat := by simp; omega
  have hzb : (b.zeroExtend 32).toNat = b.toNat := by simp; omega
  have hx : (a.zeroExtend 32 ^^^ b.zeroExtend 32 ^^^ (a.zeroExtend 32 + b.zeroExtend 32)).toNat =
      (a.toNat ^^^ b.toNat) ^^^ (a.toNat + b.toNat + 0) := by
    simp only [BitVec.toNat_xor, hr, hza, hzb, Nat.add_zero]
  have hlo : (a.zeroExtend 32 + b.zeroExtend 32).extractLsb' 0 16 = BitVec.ofNat 16 (a.toNat + b.toNat) := by
    apply BitVec.eq_of_toNat_eq
    simp only [BitVec.extractLsb'_toNat, hr, BitVec.toNat_ofNat, Nat.shiftRight_zero]
  simp only [addHl, hlo, BitVec.getLsbD, hx, carry_bit _ _ 0 _ (Nat.zero_le 1)]
  simp only [Prod.mk.injEq, Flags.mk.injEq, decide_eq_decide, true_and]
  refine ⟨?_, ?_⟩ <;> omega

/-- SP plus a signed byte, with the flags of the low bytes, on numbers (rules R234 and R293). -/
theorem addSpSigned_eq (sp : Word) (e : Byte) : addSpSigned sp e =
    (BitVec.ofInt 16 (sp.toNat + e.toInt),
     { z := false, n := false, h := decide (15 < sp.toNat % 256 % 16 + e.toNat % 16),
       c := decide (255 < sp.toNat % 256 + e.toNat) }) := by
  have he := e.isLt
  have hlo : (Word.lo sp).toNat = sp.toNat % 256 := by
    simp only [Word.lo, BitVec.extractLsb'_toNat, Nat.shiftRight_zero]
  have hr : (Byte.zext (Word.lo sp) + Byte.zext e).toNat = sp.toNat % 256 + e.toNat := by
    simp only [BitVec.toNat_add, zext_toNat, hlo]; omega
  have hx : (xor3 (Word.lo sp) e (Byte.zext (Word.lo sp) + Byte.zext e)).toNat =
      (sp.toNat % 256 ^^^ e.toNat) ^^^ (sp.toNat % 256 + e.toNat + 0) := by
    simp only [xor3, BitVec.toNat_xor, hr, zext_toNat, hlo, Nat.add_zero]
  have hs : sp + Byte.sext e = BitVec.ofInt 16 (sp.toNat + e.toInt) := by
    simp [Byte.sext, BitVec.signExtend, BitVec.ofInt_add]
  have h8 : (Byte.zext (Word.lo sp) + Byte.zext e).getLsbD 8 = decide (255 < sp.toNat % 256 + e.toNat) := by
    rw [getLsbD_eq_div, hr, decide_eq_decide]; omega
  simp only [addSpSigned, hs, h8]
  simp only [BitVec.getLsbD, hx, carry_bit _ _ 0 _ (Nat.zero_le 1)]
  simp only [Prod.mk.injEq, Flags.mk.injEq, decide_eq_decide, true_and, and_true]
  omega

/-! ## One byte: every value of it -/

/-- `INC` of a byte on numbers (rule R260). -/
theorem inc8_eq (v : Byte) (f : Flags) : inc8 v f =
    (v + 1, { z := decide (v.toNat = 255), n := false, h := decide (v.toNat % 16 = 15), c := f.c }) := by
  have h : ∀ v : Byte, decide (v + 1 = 0) = decide (v.toNat = 255) ∧
      decide (v &&& 0x0F = 0x0F) = decide (v.toNat % 16 = 15) := by decide +kernel
  simp only [inc8, (h v).1, (h v).2]

/-- `DEC` of a byte on numbers (rule R262). -/
theorem dec8_eq (v : Byte) (f : Flags) : dec8 v f =
    (v - 1, { z := decide (v.toNat = 1), n := true, h := decide (v.toNat % 16 = 0), c := f.c }) := by
  have h : ∀ v : Byte, decide (v - 1 = 0) = decide (v.toNat = 1) ∧
      decide (v &&& 0x0F = 0) = decide (v.toNat % 16 = 0) := by decide +kernel
  simp only [dec8, (h v).1, (h v).2]

/-- Rotates and shifts on numbers (rules R300 to R317). -/
theorem rotShift_eq (op : RotOp) (v : Byte) (cin : Bool) : rotShift op v cin =
    (BitVec.ofNat 8 (rotValue op v.toNat cin.toNat).1, (rotValue op v.toNat cin.toNat).2) := by
  revert v cin
  cases op <;> decide +kernel

/-- Accumulator rotates on numbers (rules R300 to R303). -/
theorem rotAcc_eq (op : AccRotOp) (v : Byte) (cin : Bool) : rotAcc op v cin =
    (BitVec.ofNat 8 (rotValue (accRot op) v.toNat cin.toNat).1, (rotValue (accRot op) v.toNat cin.toNat).2) := by
  revert v cin
  cases op <;> decide +kernel

/-- A rotated value is a byte. -/
theorem rotValue_lt (op : RotOp) (v : Byte) (cin : Bool) : (rotValue op v.toNat cin.toNat).1 < 256 := by
  revert v cin
  cases op <;> decide +kernel

/-- `BIT` (rule R318). -/
theorem bit_clear_eq (v : Byte) (n : BitVec 3) : (!v.getLsbD n.toNat) = decide (v.toNat / 2 ^ n.toNat % 2 = 0) := by
  rw [getLsbD_eq_div]
  rcases Nat.mod_two_eq_zero_or_one (v.toNat / 2 ^ n.toNat) with h | h <;> simp [h]

/-- `RES`: bit n becomes 0, the others stay (rule R319). -/
theorem resBit_bits (v : Byte) (n : BitVec 3) (k : Nat) (hk : k < 8) :
    (resBit v n).getLsbD k = if k = n.toNat then false else v.getLsbD k := by
  have hn := n.isLt
  by_cases h : k = n.toNat
  · subst h; simp [resBit]
  · simp [resBit, h, hk]
    intro hle
    omega

/-- `SET`: bit n becomes 1, the others stay (rule R320). -/
theorem setBit_bits (v : Byte) (n : BitVec 3) (k : Nat) (hk : k < 8) :
    (setBit v n).getLsbD k = if k = n.toNat then true else v.getLsbD k := by
  have hn := n.isLt
  by_cases h : k = n.toNat
  · subst h; simp [setBit]; omega
  · simp [setBit, h, hk]
    omega

end Sys2Proof.Machine
end

