-- ==== Sys2Proof/Laws/Stack.lean ====
section
/-! SUPPORT. Laws of the stack operations, and of taking an interrupt and returning from one: each says once everything
its operation does. -/

namespace Sys2Proof.Machine

/-! ## Halves of a word -/

@[simp] theorem Word.hi_ofBytes (hi lo : Byte) : Word.hi (Word.ofBytes hi lo) = hi := by
  apply BitVec.eq_of_getLsbD_eq
  intro i hi'
  rw [BitVec.getLsbD_extractLsb', BitVec.getLsbD_append]
  simp [hi']

@[simp] theorem Word.lo_ofBytes (hi lo : Byte) : Word.lo (Word.ofBytes hi lo) = lo := by
  apply BitVec.eq_of_getLsbD_eq
  intro i hi'
  rw [BitVec.getLsbD_extractLsb', BitVec.getLsbD_append]
  simp [hi']

@[simp] theorem Word.ofBytes_hi_lo (w : Word) : Word.ofBytes (Word.hi w) (Word.lo w) = w := by
  ext i hi'; simp

theorem word_sub_one_one (w : Word) : w - 1 - 1 = w - 2 := by bv_omega

theorem word_add_one_one (w : Word) : w + 1 + 1 = w + 2 := by bv_omega

/-! ## Reads do not look at the CPU -/

theorem State.busRead_setCpu (s : State) (c : Cpu) (a : Word) : { s with cpu := c }.busRead a = s.busRead a := rfl

theorem State.busRead_setSp (s : State) (v a : Word) : (s.setSp v).busRead a = s.busRead a := rfl

/-! ## Push and pop -/

/-- A push is two bus writes and SP two down (rule R238). -/
theorem State.push16_eq (s : State) (v : Word) : s.push16 v =
    ((s.busWrite (s.cpu.sp - 1) (Word.hi v)).busWrite (s.cpu.sp - 1 - 1) (Word.lo v)).setSp (s.cpu.sp - 1 - 1) := by
  simp only [State.push16, State.setSp, State.busWrite_setCpu, State.busWrite_cpu]

/-- The state after a pop: SP two up, two reads counted (rule R239). -/
theorem State.pop16_snd (s : State) :
    s.pop16.2 = ((s.noteRead s.cpu.sp).noteRead (s.cpu.sp + 1)).setSp (s.cpu.sp + 1 + 1) := rfl

/-- A push keeps storage canonical. -/
theorem State.StoreOk.push16 {s : State} (h : s.StoreOk) (v : Word) : (s.push16 v).StoreOk := by
  rw [State.push16_eq]
  have h2 := (h.busWrite (s.cpu.sp - 1) (Word.hi v)).busWrite (s.cpu.sp - 1 - 1) (Word.lo v)
  exact ⟨h2.mem, h2.cart, h2.framebuf, h2.frames⟩

/-! ## Interrupts -/

/-- The source found is the pending one with no pending one before it (rule R424). -/
theorem Irq.lowestSource_eq_some {q : Irq} {i : Nat} :
    q.lowestSource = some i ↔ i < 5 ∧ q.pending i = true ∧ ∀ j, j < i → q.pending j = false := by
  constructor
  · intro h
    unfold Irq.lowestSource at h
    repeat' split at h
    all_goals simp only [Option.some.injEq, reduceCtorEq] at h
    all_goals subst h
    all_goals refine ⟨by decide, ‹_›, fun j hj => ?_⟩
    all_goals interval_cases j <;> simp_all
  · rintro ⟨h5, hi, h⟩
    unfold Irq.lowestSource
    interval_cases i <;> simp [hi, h]

/-- No source is found only when none of the five is pending. -/
theorem Irq.lowestSource_none {q : Irq} (h : q.lowestSource = none) {j : Nat} (hj : j < 5) : q.pending j = false := by
  unfold Irq.lowestSource at h
  repeat' split at h
  all_goals simp only [reduceCtorEq] at h
  interval_cases j <;> simp_all

end Sys2Proof.Machine
end

