-- ==== Sys2Proof/Laws/Ticks.lean ====
section
/-! SUPPORT. The frame of each tick: the one list of the fields it can change, all others stay. Everything a proof
needs about an unchanged field is a `congrArg` of one of these. -/

namespace Sys2Proof.Machine

/-! ## Timer and DMA -/

/-- A Timer tick changes the timer and IF only (rule R461). -/
theorem State.timerTick_frame (s : State) : { s.timerTick with timer := s.timer, irq := s.irq } = s := by
  unfold State.timerTick State.timaIncrement
  dsimp only
  split
  · split <;> rfl
  · rfl

/-- A Timer tick leaves IE alone. -/
theorem State.timerTick_enable (s : State) : s.timerTick.irq.enable = s.irq.enable := by
  unfold State.timerTick State.timaIncrement
  dsimp only
  split
  · split <;> rfl
  · rfl

/-- A DMA tick changes the controller, memory and the count of answers of `EXT` only (rule R482). -/
theorem State.dmaTick_frame (s : State) :
    { s.dmaTick with dma := s.dma, mem := s.mem, extReads := s.extReads } = s := by
  unfold State.dmaTick
  split <;> rfl

/-! ## PPU -/

/-- `t` differs from `s` in the PPU, the fetcher, IF, the frame buffer and the frames at most. -/
def State.SameOutsidePpu (s t : State) : Prop :=
  t.cpu = s.cpu ∧ t.irq.enable = s.irq.enable ∧ t.timer = s.timer ∧ t.dma = s.dma ∧ t.mem = s.mem ∧ t.cart = s.cart ∧
  t.extWrites = s.extWrites ∧ t.cycles = s.cycles ∧ t.mcycles = s.mcycles ∧ t.extReads = s.extReads ∧
  t.extTurns = s.extTurns ∧ t.extRequests = s.extRequests

theorem State.SameOutsidePpu.rfl {s : State} : s.SameOutsidePpu s :=
  ⟨Eq.refl _, Eq.refl _, Eq.refl _, Eq.refl _, Eq.refl _, Eq.refl _, Eq.refl _, Eq.refl _, Eq.refl _, Eq.refl _, Eq.refl _, Eq.refl _⟩

theorem State.SameOutsidePpu.trans {s t u : State} (h : s.SameOutsidePpu t) (k : t.SameOutsidePpu u) :
    s.SameOutsidePpu u := by
  simp_all [State.SameOutsidePpu]

theorem State.requestStat_same (s : State) (n : Nat) : s.SameOutsidePpu (s.requestStat n) := by
  unfold State.requestStat
  split <;> exact .rfl

theorem State.fetcherStep_same (s : State) : s.SameOutsidePpu s.fetcherStep := by
  unfold State.fetcherStep
  split
  · exact .rfl
  · exact .rfl
  · exact .rfl
  · exact .rfl
  · unfold State.fetchPush
    split <;> exact .rfl

theorem State.plot_same (s : State) (px : BitVec 2) : s.SameOutsidePpu (s.plot px) := by
  unfold State.plot
  split <;> exact .rfl

theorem State.emitPixel_same (s : State) (px : BitVec 2) : s.SameOutsidePpu (s.emitPixel px) := by
  unfold State.emitPixel
  split
  · exact (State.plot_same s px).trans .rfl
  · exact .rfl

theorem State.pusherStep_same (s : State) : s.SameOutsidePpu s.pusherStep := by
  unfold State.pusherStep
  split
  · exact .rfl
  · next px rest _ =>
    split
    · exact (State.emitPixel_same { s with fetcher := { s.fetcher with fifo := rest } } px).trans .rfl
    · exact .rfl

theorem State.incrementLy_same (s : State) : s.SameOutsidePpu s.incrementLy := by
  have h : s.SameOutsidePpu s.advanceLy := by
    unfold State.advanceLy
    split <;> exact .rfl
  unfold State.incrementLy State.compareLyc
  split
  · exact h.trans (State.requestStat_same { s.advanceLy with ppu := { s.advanceLy.ppu with lycFlag := true } } 6)
  · exact h.trans .rfl

/-- A dot changes the PPU, the fetcher, IF, the frame buffer and the frames at most (rule R501). -/
theorem State.ppuTick_same (s : State) : s.SameOutsidePpu s.ppuTick := by
  unfold State.ppuTick
  split
  · unfold State.oamScanDot
    dsimp only
    split <;> exact .rfl
  · have h1 : s.SameOutsidePpu (if s.ppu.lineDot % 2 = 0 then s.fetcherStep else s) := by
      split
      · exact State.fetcherStep_same s
      · exact .rfl
    have h2 := h1.trans (State.pusherStep_same _)
    unfold State.drawDot State.endDraw
    dsimp only
    generalize State.pusherStep _ = t at h2 ⊢
    split
    · exact (h2.trans (State.requestStat_same
        { t with fetcher := { t.fetcher with fifo := [] }, ppu := { t.ppu with mode := .hblank } } 3)).trans .rfl
    · exact h2.trans .rfl
  · unfold State.hblankDot
    split
    · have h := State.incrementLy_same { s with ppu := { s.ppu with lineDot := 0 } }
      dsimp only
      generalize State.incrementLy _ = t at h ⊢
      split
      · have h2 : t.SameOutsidePpu ({ t with ppu := { t.ppu with mode := .vblank } }.request 0) := .rfl
        exact h.trans (h2.trans (State.requestStat_same _ 4))
      · exact h.trans .rfl
    · exact .rfl
  · unfold State.vblankDot
    split
    · exact State.incrementLy_same { s with ppu := { s.ppu with lineDot := 0 } }
    · exact .rfl

end Sys2Proof.Machine
end

