-- ==== Sys2Proof/Tests/Slice0.lean ====
section
/-! SUPPORT. The package's own tests: ill-formed terms refused, words decoded, single steps with the expected values of
spec/95_test_vectors.md (written there from the rules), and for each statement with hypotheses a witness that meets
them. -/

namespace Sys2Proof.Tests

open Sys2Proof Sys2Proof.Machine

set_option Elab.async false

/-! ## Well-formedness: each of the eleven undefined rows is refused (rule R142) -/

theorem test_wf_illegalD3 : Instr.wellFormed .illegalD3 = false := by decide
theorem test_wf_illegalDB : Instr.wellFormed .illegalDB = false := by decide
theorem test_wf_illegalDD : Instr.wellFormed .illegalDD = false := by decide
theorem test_wf_illegalE3 : Instr.wellFormed .illegalE3 = false := by decide
theorem test_wf_illegalE4 : Instr.wellFormed .illegalE4 = false := by decide
theorem test_wf_illegalEB : Instr.wellFormed .illegalEB = false := by decide
theorem test_wf_illegalEC : Instr.wellFormed .illegalEC = false := by decide
theorem test_wf_illegalED : Instr.wellFormed .illegalED = false := by decide
theorem test_wf_illegalF4 : Instr.wellFormed .illegalF4 = false := by decide
theorem test_wf_illegalFC : Instr.wellFormed .illegalFC = false := by decide
theorem test_wf_illegalFD : Instr.wellFormed .illegalFD = false := by decide
theorem test_wf_stop : Instr.wellFormed .stop = true := by decide

/-! ## Decoding: words written out bit by bit from rules R130 to R141, one or more per family -/

theorem test_decode_ld_r_r : decode [0b01_111_101] = .ok (.ldAL, []) := rfl
theorem test_decode_ld_hl_r : decode [0b01_110_011] = .ok (.ldMemHlE, []) := rfl
theorem test_decode_ld_r_d8 : decode [0b00_101_110, 0x5A] = .ok (.ldLD8 0x5A, []) := rfl
theorem test_decode_ld_hl_minus_a : decode [0b00_110_010] = .ok (.ldMemHlDecA, []) := rfl
theorem test_decode_ld_a16_a : decode [0b11_101_010, 0x34, 0xC2] = .ok (.ldMemA16A 0xC234, []) := rfl
theorem test_decode_ldh : decode [0b11_110_000, 0x44] = .ok (.ldhAMemA8 0x44, []) := rfl
theorem test_decode_ld_rr_d16 : decode [0b00_11_0_001, 0xFE, 0xFF] = .ok (.ldSpD16 0xFFFE, []) := rfl
theorem test_decode_pop : decode [0b11_01_0_001] = .ok (.popDe, []) := rfl
theorem test_decode_alu : decode [0b10_101_010] = .ok (.xorAD, []) := rfl
theorem test_decode_alu_d8 : decode [0b11_111_110, 0x3C] = .ok (.cpAD8 0x3C, []) := rfl
theorem test_decode_inc_rr : decode [0b00_10_0_011] = .ok (.incHl, []) := rfl
theorem test_decode_rra : decode [0b00_011_111] = .ok (.rra, []) := rfl
theorem test_decode_swap : decode [0xCB, 0b00_110_010] = .ok (.swapD, []) := rfl
theorem test_decode_res : decode [0xCB, 0b10_011_110] = .ok (.res3MemHl, []) := rfl
theorem test_decode_set : decode [0xCB, 0b11_111_000] = .ok (.set7B, []) := rfl
theorem test_decode_jr_cc : decode [0b00_1_11_000, 0xFB] = .ok (.jrCE8 0xFB, []) := rfl
theorem test_decode_rst : decode [0b11_101_111] = .ok (.rst28, []) := rfl
theorem test_decode_reti : decode [0b11_01_1_001] = .ok (.reti, []) := rfl
theorem test_decode_ei : decode [0b11_111_011] = .ok (.ei, []) := rfl
theorem test_decode_short : decode [0xCB] = .error (.truncated 0xCB) := rfl

/-- The opcode table's number of a prefixed row, 0xCB65, is read as that row (log entry 1). -/
theorem test_decodeTableWord_prefixed : decodeTableWord 16 0xCB65 = some .bit4L := by decide +kernel

/-- A three-byte row with operand bytes of zeros. -/
theorem test_decodeTableWord_short : decodeTableWord 8 0xC3 = some (.jpA16 0) := by decide +kernel

/-! ## One step each -/

/-- The registers the single-instruction vectors start from. -/
def start : Cpu := { State.reset.cpu with f := Flags.ofByte 0 }

/-- Reset, with a program at 0x0100 and given registers, interrupt bits and memory, and an environment that requests nothing
at the first step boundary, as P7 has it in spec/95_test_vectors.md ("never requests"). -/
def atStart (bytes : List Byte) (c : Cpu) (q : Irq) (m : Memory) : State :=
  { State.reset with
    cart := .romOnly (bytes.zipIdx.map fun b => (0x0100 + b.2, b.1)), cpu := c, irq := q, mem := m
    extRequests := [{ serial := false, joypad := false }] }

/-- What `look` sees after one step. -/
def run1 {α : Type} (bytes : List Byte) (c : Cpu) (q : Irq) (m : Memory) (look : State → α) : Option α :=
  match step (atStart bytes c q m) with
  | .next t => some (look t)
  | .fault _ => none
  | .refused _ => none

/-- V1 of spec/95_test_vectors.md, rule R200: `LD B,C`. -/
theorem test_ldBC_V1 : run1 [0x41] { start with b := 0x11, c := 0x22, f := Flags.ofByte 0x50 } { req := 0x00, enable := 0x00 } []
    (fun t => (t.cpu.b, t.cpu.pc, t.cpu.f.byte, t.cycles)) = some (0x22, 0x0101, 0x50, 4) := by
  decide +kernel

/-- V3 of spec/95_test_vectors.md, rule R201: `LD B,d8`. -/
theorem test_ldBD8_V3 : run1 [0x06, 0x9C] { start with b := 0x00, f := Flags.ofByte 0xF0 } { req := 0x00, enable := 0x00 } []
    (fun t => (t.cpu.b, t.cpu.pc, t.cpu.f.byte, t.cycles)) = some (0x9C, 0x0102, 0xF0, 8) := by
  decide +kernel

/-- V4 of spec/95_test_vectors.md, rule R202: `LD C,(HL)`. -/
theorem test_ldCMemHl_V4 : run1 [0x4E] { start with h := 0xC1, l := 0x23, c := 0x00, f := Flags.ofByte 0x00 } { req := 0x00, enable := 0x00 } [(0xC123, 0x77)]
    (fun t => (t.cpu.c, t.cpu.pc, t.cpu.f.byte, t.cycles)) = some (0x77, 0x0101, 0x00, 8) := by
  decide +kernel

/-- V6 of spec/95_test_vectors.md, rule R203: `LD (HL),H`. -/
theorem test_ldMemHlH_V6 : run1 [0x74] { start with h := 0xC0, l := 0xC0, f := Flags.ofByte 0x00 } { req := 0x00, enable := 0x00 } []
    (fun t => (t.cpu.pc, t.cpu.f.byte, t.busRead 0xC0C0, t.cycles)) = some (0x0101, 0x00, 0xC0, 8) := by
  decide +kernel

/-- V7 of spec/95_test_vectors.md, rule R204: `LD (HL),d8`. -/
theorem test_ldMemHlD8_V7 : run1 [0x36, 0x42] { start with h := 0xC0, l := 0x10, f := Flags.ofByte 0x00 } { req := 0x00, enable := 0x00 } []
    (fun t => (t.cpu.pc, t.cpu.f.byte, t.busRead 0xC010, t.cycles)) = some (0x0102, 0x00, 0x42, 12) := by
  decide +kernel

/-- V8 of spec/95_test_vectors.md, rule R205: `LD A,(BC)`. -/
theorem test_ldAMemBc_V8 : run1 [0x0A] { start with b := 0xC0, c := 0x05, a := 0x00, f := Flags.ofByte 0x00 } { req := 0x00, enable := 0x00 } [(0xC005, 0x99)]
    (fun t => (t.cpu.a, t.cpu.pc, t.cpu.f.byte, t.cycles)) = some (0x99, 0x0101, 0x00, 8) := by
  decide +kernel

/-- V11 of spec/95_test_vectors.md, rule R208: `LD (DE),A`. -/
theorem test_ldMemDeA_V11 : run1 [0x12] { start with d := 0xC0, e := 0x08, a := 0x13, f := Flags.ofByte 0x00 } { req := 0x00, enable := 0x00 } []
    (fun t => (t.cpu.pc, t.cpu.f.byte, t.busRead 0xC008, t.cycles)) = some (0x0101, 0x00, 0x13, 8) := by
  decide +kernel

/-- V12 of spec/95_test_vectors.md, rule R209: `LD A,(HL+)`. -/
theorem test_ldAMemHlInc_V12 : run1 [0x2A] { start with h := 0xC0, l := 0xFF, a := 0x00, f := Flags.ofByte 0x00 } { req := 0x00, enable := 0x00 } [(0xC0FF, 0x31)]
    (fun t => (t.cpu.a, t.cpu.h, t.cpu.l, t.cpu.pc, t.cpu.f.byte, t.cycles)) = some (0x31, 0xC1, 0x00, 0x0101, 0x00, 8) := by
  decide +kernel

/-- V13 of spec/95_test_vectors.md, rule R209: `LD A,(HL+)`. -/
theorem test_ldAMemHlInc_V13 : run1 [0x2A] { start with h := 0xFF, l := 0xFF, a := 0x00, f := Flags.ofByte 0x00 } { req := 0x00, enable := 0x15 } []
    (fun t => (t.cpu.a, t.cpu.h, t.cpu.l, t.cpu.pc, t.cpu.f.byte, t.cycles)) = some (0x15, 0x00, 0x00, 0x0101, 0x00, 8) := by
  decide +kernel

/-- V17 of spec/95_test_vectors.md, rule R212: `LD (HL-),A`. -/
theorem test_ldMemHlDecA_V17 : run1 [0x32] { start with h := 0xC1, l := 0x00, a := 0x45, f := Flags.ofByte 0x00 } { req := 0x00, enable := 0x00 } []
    (fun t => (t.cpu.h, t.cpu.l, t.cpu.pc, t.cpu.f.byte, t.busRead 0xC100, t.cycles)) = some (0xC0, 0xFF, 0x0101, 0x00, 0x45, 8) := by
  decide +kernel

/-- V18 of spec/95_test_vectors.md, rule R213: `LD A,(a16)`. -/
theorem test_ldAMemA16_V18 : run1 [0xFA, 0x34, 0xC2] { start with a := 0x00, f := Flags.ofByte 0x00 } { req := 0x00, enable := 0x00 } [(0xC234, 0x5E)]
    (fun t => (t.cpu.a, t.cpu.pc, t.cpu.f.byte, t.cycles)) = some (0x5E, 0x0103, 0x00, 16) := by
  decide +kernel

/-- V19 of spec/95_test_vectors.md, rule R214: `LD (a16),A`. -/
theorem test_ldMemA16A_V19 : run1 [0xEA, 0x34, 0xC2] { start with a := 0x5F, f := Flags.ofByte 0x00 } { req := 0x00, enable := 0x00 } []
    (fun t => (t.cpu.pc, t.cpu.f.byte, t.busRead 0xC234, t.cycles)) = some (0x0103, 0x00, 0x5F, 16) := by
  decide +kernel

/-- V20 of spec/95_test_vectors.md, rule R215: `LDH A,(a8)`. -/
theorem test_ldhAMemA8_V20 : run1 [0xF0, 0x80] { start with a := 0x00, f := Flags.ofByte 0x00 } { req := 0x00, enable := 0x00 } [(0xFF80, 0x6A)]
    (fun t => (t.cpu.a, t.cpu.pc, t.cpu.f.byte, t.cycles)) = some (0x6A, 0x0102, 0x00, 12) := by
  decide +kernel

/-- V21 of spec/95_test_vectors.md, rule R216: `LDH (a8),A`. -/
theorem test_ldhMemA8A_V21 : run1 [0xE0, 0x81] { start with a := 0x6B, f := Flags.ofByte 0x00 } { req := 0x00, enable := 0x00 } []
    (fun t => (t.cpu.pc, t.cpu.f.byte, t.busRead 0xFF81, t.cycles)) = some (0x0102, 0x00, 0x6B, 12) := by
  decide +kernel

/-- V22 of spec/95_test_vectors.md, rule R217: `LD A,(C)`. -/
theorem test_ldAMemC_V22 : run1 [0xF2] { start with c := 0x82, a := 0x00, f := Flags.ofByte 0x00 } { req := 0x00, enable := 0x00 } [(0xFF82, 0x6C)]
    (fun t => (t.cpu.a, t.cpu.pc, t.cpu.f.byte, t.cycles)) = some (0x6C, 0x0101, 0x00, 8) := by
  decide +kernel

/-- V23 of spec/95_test_vectors.md, rule R218: `LD (C),A`. -/
theorem test_ldMemCA_V23 : run1 [0xE2] { start with c := 0x83, a := 0x6D, f := Flags.ofByte 0x00 } { req := 0x00, enable := 0x00 } []
    (fun t => (t.cpu.pc, t.cpu.f.byte, t.busRead 0xFF83, t.cycles)) = some (0x0101, 0x00, 0x6D, 8) := by
  decide +kernel

/-- V24 of spec/95_test_vectors.md, rule R230: `LD HL,d16`. -/
theorem test_ldHlD16_V24 : run1 [0x21, 0xCD, 0xAB] { start with h := 0x00, l := 0x00, f := Flags.ofByte 0x00 } { req := 0x00, enable := 0x00 } []
    (fun t => (t.cpu.h, t.cpu.l, t.cpu.pc, t.cpu.f.byte, t.cycles)) = some (0xAB, 0xCD, 0x0103, 0x00, 12) := by
  decide +kernel

/-- V26 of spec/95_test_vectors.md, rule R232: `LD (a16),SP`. -/
theorem test_ldMemA16Sp_V26 : run1 [0x08, 0x00, 0xC3] { start with sp := 0xBEEF, f := Flags.ofByte 0x00 } { req := 0x00, enable := 0x00 } []
    (fun t => (t.cpu.pc, t.cpu.f.byte, t.busRead 0xC300, t.busRead 0xC301, t.cycles)) = some (0x0103, 0x00, 0xEF, 0xBE, 20) := by
  decide +kernel

/-- V27 of spec/95_test_vectors.md, rule R233: `LD SP,HL`. -/
theorem test_ldSpHl_V27 : run1 [0xF9] { start with h := 0xD1, l := 0x23, f := Flags.ofByte 0xF0 } { req := 0x00, enable := 0x00 } []
    (fun t => (t.cpu.sp, t.cpu.pc, t.cpu.f.byte, t.cycles)) = some (0xD123, 0x0101, 0xF0, 8) := by
  decide +kernel

/-- V29 of spec/95_test_vectors.md, rule R234: `LD HL,SP+e8`. -/
theorem test_ldHlSpE8_V29 : run1 [0xF8, 0xFE] { start with sp := 0x0001, h := 0x00, l := 0x00, f := Flags.ofByte 0x00 } { req := 0x00, enable := 0x00 } []
    (fun t => (t.cpu.h, t.cpu.l, t.cpu.pc, t.cpu.f.byte, t.cycles)) = some (0xFF, 0xFF, 0x0102, 0x00, 12) := by
  decide +kernel

/-- V32 of spec/95_test_vectors.md, rule R235: `PUSH AF`. -/
theorem test_pushAf_V32 : run1 [0xF5] { start with a := 0x12, sp := 0x0001, f := Flags.ofByte 0xB0 } { req := 0x00, enable := 0x00 } []
    (fun t => (t.cpu.sp, t.cpu.pc, t.cpu.f.byte, t.busRead 0xFFFF, t.cycles)) = some (0xFFFF, 0x0101, 0xB0, 0xB0, 16) := by
  decide +kernel

/-- V33 of spec/95_test_vectors.md, rule R236: `POP DE`. -/
theorem test_popDe_V33 : run1 [0xD1] { start with sp := 0xCFFE, d := 0x00, e := 0x00, f := Flags.ofByte 0x00 } { req := 0x00, enable := 0x00 } [(0xCFFE, 0x34), (0xCFFF, 0x12)]
    (fun t => (t.cpu.d, t.cpu.e, t.cpu.sp, t.cpu.pc, t.cpu.f.byte, t.cycles)) = some (0x12, 0x34, 0xD000, 0x0101, 0x00, 12) := by
  decide +kernel

/-- V34 of spec/95_test_vectors.md, rule R237: `POP AF`. -/
theorem test_popAf_V34 : run1 [0xF1] { start with sp := 0xCFFE, a := 0x00, f := Flags.ofByte 0x00 } { req := 0x00, enable := 0x00 } [(0xCFFE, 0xFF), (0xCFFF, 0x12)]
    (fun t => (t.cpu.a, t.cpu.sp, t.cpu.pc, t.cpu.f.byte, t.cycles)) = some (0x12, 0xD000, 0x0101, 0xF0, 12) := by
  decide +kernel

/-- V35 of spec/95_test_vectors.md, rule R250: `ADD A,B`. -/
theorem test_addAB_V35 : run1 [0x80] { start with a := 0x3A, b := 0xC6, f := Flags.ofByte 0x00 } { req := 0x00, enable := 0x00 } []
    (fun t => (t.cpu.a, t.cpu.pc, t.cpu.f.byte, t.cycles)) = some (0x00, 0x0101, 0xB0, 4) := by
  decide +kernel

/-- V39 of spec/95_test_vectors.md, rule R251: `ADC A,B`. -/
theorem test_adcAB_V39 : run1 [0x88] { start with a := 0xE1, b := 0x0F, f := Flags.ofByte 0x10 } { req := 0x00, enable := 0x00 } []
    (fun t => (t.cpu.a, t.cpu.pc, t.cpu.f.byte, t.cycles)) = some (0xF1, 0x0101, 0x20, 4) := by
  decide +kernel

/-- V43 of spec/95_test_vectors.md, rule R252: `SUB A,(HL)`. -/
theorem test_subAMemHl_V43 : run1 [0x96] { start with a := 0x3E, h := 0xC0, l := 0x00, f := Flags.ofByte 0x00 } { req := 0x00, enable := 0x00 } [(0xC000, 0x40)]
    (fun t => (t.cpu.a, t.cpu.pc, t.cpu.f.byte, t.cycles)) = some (0xFE, 0x0101, 0x50, 8) := by
  decide +kernel

/-- V46 of spec/95_test_vectors.md, rule R253: `SBC A,A`. -/
theorem test_sbcAA_V46 : run1 [0x9F] { start with a := 0x77, f := Flags.ofByte 0x10 } { req := 0x00, enable := 0x00 } []
    (fun t => (t.cpu.a, t.cpu.pc, t.cpu.f.byte, t.cycles)) = some (0xFF, 0x0101, 0x70, 4) := by
  decide +kernel

/-- V47 of spec/95_test_vectors.md, rule R254: `AND A,B`. -/
theorem test_andAB_V47 : run1 [0xA0] { start with a := 0x5A, b := 0x3F, f := Flags.ofByte 0x10 } { req := 0x00, enable := 0x00 } []
    (fun t => (t.cpu.a, t.cpu.pc, t.cpu.f.byte, t.cycles)) = some (0x1A, 0x0101, 0x20, 4) := by
  decide +kernel

/-- V49 of spec/95_test_vectors.md, rule R255: `XOR A,A`. -/
theorem test_xorAA_V49 : run1 [0xAF] { start with a := 0x9D, f := Flags.ofByte 0xF0 } { req := 0x00, enable := 0x00 } []
    (fun t => (t.cpu.a, t.cpu.pc, t.cpu.f.byte, t.cycles)) = some (0x00, 0x0101, 0x80, 4) := by
  decide +kernel

/-- V51 of spec/95_test_vectors.md, rule R256: `OR A,B`. -/
theorem test_orAB_V51 : run1 [0xB0] { start with a := 0x5A, b := 0x0F, f := Flags.ofByte 0xF0 } { req := 0x00, enable := 0x00 } []
    (fun t => (t.cpu.a, t.cpu.pc, t.cpu.f.byte, t.cycles)) = some (0x5F, 0x0101, 0x00, 4) := by
  decide +kernel

/-- V53 of spec/95_test_vectors.md, rule R257: `CP A,B`. -/
theorem test_cpAB_V53 : run1 [0xB8] { start with a := 0x3C, b := 0x2F, f := Flags.ofByte 0x00 } { req := 0x00, enable := 0x00 } []
    (fun t => (t.cpu.pc, t.cpu.f.byte, t.cycles)) = some (0x0101, 0x60, 4) := by
  decide +kernel

/-- V56 of spec/95_test_vectors.md, rule R260: `INC B`. -/
theorem test_incB_V56 : run1 [0x04] { start with b := 0x0F, f := Flags.ofByte 0x10 } { req := 0x00, enable := 0x00 } []
    (fun t => (t.cpu.b, t.cpu.pc, t.cpu.f.byte, t.cycles)) = some (0x10, 0x0101, 0x30, 4) := by
  decide +kernel

/-- V58 of spec/95_test_vectors.md, rule R261: `INC (HL)`. -/
theorem test_incMemHl_V58 : run1 [0x34] { start with h := 0xC0, l := 0x00, f := Flags.ofByte 0x10 } { req := 0x00, enable := 0x00 } [(0xC000, 0x4F)]
    (fun t => (t.cpu.pc, t.cpu.f.byte, t.busRead 0xC000, t.cycles)) = some (0x0101, 0x30, 0x50, 12) := by
  decide +kernel

/-- V60 of spec/95_test_vectors.md, rule R262: `DEC A`. -/
theorem test_decA_V60 : run1 [0x3D] { start with a := 0x01, f := Flags.ofByte 0x10 } { req := 0x00, enable := 0x00 } []
    (fun t => (t.cpu.a, t.cpu.pc, t.cpu.f.byte, t.cycles)) = some (0x00, 0x0101, 0xD0, 4) := by
  decide +kernel

/-- V62 of spec/95_test_vectors.md, rule R263: `DEC (HL)`. -/
theorem test_decMemHl_V62 : run1 [0x35] { start with h := 0xC0, l := 0x00, f := Flags.ofByte 0x00 } { req := 0x00, enable := 0x00 } [(0xC000, 0x00)]
    (fun t => (t.cpu.pc, t.cpu.f.byte, t.busRead 0xC000, t.cycles)) = some (0x0101, 0x60, 0xFF, 12) := by
  decide +kernel

/-- V64 of spec/95_test_vectors.md, rule R264: `DAA`. -/
theorem test_daa_V64 : run1 [0x27] { start with a := 0x4B, f := Flags.ofByte 0x60 } { req := 0x00, enable := 0x00 } []
    (fun t => (t.cpu.a, t.cpu.pc, t.cpu.f.byte, t.cycles)) = some (0x45, 0x0101, 0x40, 4) := by
  decide +kernel

/-- V65 of spec/95_test_vectors.md, rule R264: `DAA`. -/
theorem test_daa_V65 : run1 [0x27] { start with a := 0x9A, f := Flags.ofByte 0x00 } { req := 0x00, enable := 0x00 } []
    (fun t => (t.cpu.a, t.cpu.pc, t.cpu.f.byte, t.cycles)) = some (0x00, 0x0101, 0x90, 4) := by
  decide +kernel

/-- V67 of spec/95_test_vectors.md, rule R265: `CPL`. -/
theorem test_cpl_V67 : run1 [0x2F] { start with a := 0x35, f := Flags.ofByte 0x90 } { req := 0x00, enable := 0x00 } []
    (fun t => (t.cpu.a, t.cpu.pc, t.cpu.f.byte, t.cycles)) = some (0xCA, 0x0101, 0xF0, 4) := by
  decide +kernel

/-- V68 of spec/95_test_vectors.md, rule R266: `SCF`. -/
theorem test_scf_V68 : run1 [0x37] { start with a := 0x00, f := Flags.ofByte 0xE0 } { req := 0x00, enable := 0x00 } []
    (fun t => (t.cpu.pc, t.cpu.f.byte, t.cycles)) = some (0x0101, 0x90, 4) := by
  decide +kernel

/-- V70 of spec/95_test_vectors.md, rule R267: `CCF`. -/
theorem test_ccf_V70 : run1 [0x3F] { start with a := 0x00, f := Flags.ofByte 0x00 } { req := 0x00, enable := 0x00 } []
    (fun t => (t.cpu.pc, t.cpu.f.byte, t.cycles)) = some (0x0101, 0x10, 4) := by
  decide +kernel

/-- V71 of spec/95_test_vectors.md, rule R290: `ADD HL,BC`. -/
theorem test_addHlBc_V71 : run1 [0x09] { start with h := 0x8A, l := 0x23, b := 0x06, c := 0x05, f := Flags.ofByte 0x80 } { req := 0x00, enable := 0x00 } []
    (fun t => (t.cpu.h, t.cpu.l, t.cpu.pc, t.cpu.f.byte, t.cycles)) = some (0x90, 0x28, 0x0101, 0xA0, 8) := by
  decide +kernel

/-- V73 of spec/95_test_vectors.md, rule R290: `ADD HL,SP`. -/
theorem test_addHlSp_V73 : run1 [0x39] { start with h := 0x00, l := 0x01, sp := 0xFFFF, f := Flags.ofByte 0x40 } { req := 0x00, enable := 0x00 } []
    (fun t => (t.cpu.l, t.cpu.pc, t.cpu.f.byte, t.cycles)) = some (0x00, 0x0101, 0x30, 8) := by
  decide +kernel

/-- V75 of spec/95_test_vectors.md, rule R291: `INC SP`. -/
theorem test_incSp_V75 : run1 [0x33] { start with sp := 0xFFFF, f := Flags.ofByte 0x00 } { req := 0x00, enable := 0x00 } []
    (fun t => (t.cpu.sp, t.cpu.pc, t.cpu.f.byte, t.cycles)) = some (0x0000, 0x0101, 0x00, 8) := by
  decide +kernel

/-- V76 of spec/95_test_vectors.md, rule R292: `DEC BC`. -/
theorem test_decBc_V76 : run1 [0x0B] { start with b := 0x00, c := 0x00, f := Flags.ofByte 0x00 } { req := 0x00, enable := 0x00 } []
    (fun t => (t.cpu.b, t.cpu.c, t.cpu.pc, t.cpu.f.byte, t.cycles)) = some (0xFF, 0xFF, 0x0101, 0x00, 8) := by
  decide +kernel

/-- V78 of spec/95_test_vectors.md, rule R293: `ADD SP,e8`. -/
theorem test_addSpE8_V78 : run1 [0xE8, 0xFF] { start with sp := 0x0000, f := Flags.ofByte 0x00 } { req := 0x00, enable := 0x00 } []
    (fun t => (t.cpu.sp, t.cpu.pc, t.cpu.f.byte, t.cycles)) = some (0xFFFF, 0x0102, 0x00, 16) := by
  decide +kernel

/-- V80 of spec/95_test_vectors.md, rule R293: `ADD SP,e8`. -/
theorem test_addSpE8_V80 : run1 [0xE8, 0x80] { start with sp := 0x0080, f := Flags.ofByte 0x00 } { req := 0x00, enable := 0x00 } []
    (fun t => (t.cpu.sp, t.cpu.pc, t.cpu.f.byte, t.cycles)) = some (0x0000, 0x0102, 0x10, 16) := by
  decide +kernel

/-- V81 of spec/95_test_vectors.md, rule R300: `RLCA`. -/
theorem test_rlca_V81 : run1 [0x07] { start with a := 0x85, f := Flags.ofByte 0x80 } { req := 0x00, enable := 0x00 } []
    (fun t => (t.cpu.a, t.cpu.pc, t.cpu.f.byte, t.cycles)) = some (0x0B, 0x0101, 0x10, 4) := by
  decide +kernel

/-- V83 of spec/95_test_vectors.md, rule R301: `RRCA`. -/
theorem test_rrca_V83 : run1 [0x0F] { start with a := 0x3B, f := Flags.ofByte 0x00 } { req := 0x00, enable := 0x00 } []
    (fun t => (t.cpu.a, t.cpu.pc, t.cpu.f.byte, t.cycles)) = some (0x9D, 0x0101, 0x10, 4) := by
  decide +kernel

/-- V84 of spec/95_test_vectors.md, rule R302: `RLA`. -/
theorem test_rla_V84 : run1 [0x17] { start with a := 0x95, f := Flags.ofByte 0x10 } { req := 0x00, enable := 0x00 } []
    (fun t => (t.cpu.a, t.cpu.pc, t.cpu.f.byte, t.cycles)) = some (0x2B, 0x0101, 0x10, 4) := by
  decide +kernel

/-- V85 of spec/95_test_vectors.md, rule R303: `RRA`. -/
theorem test_rra_V85 : run1 [0x1F] { start with a := 0x81, f := Flags.ofByte 0x00 } { req := 0x00, enable := 0x00 } []
    (fun t => (t.cpu.a, t.cpu.pc, t.cpu.f.byte, t.cycles)) = some (0x40, 0x0101, 0x10, 4) := by
  decide +kernel

/-- V87 of spec/95_test_vectors.md, rule R310: `RLC (HL)`. -/
theorem test_rlcMemHl_V87 : run1 [0xCB, 0x06] { start with h := 0xC0, l := 0x00, f := Flags.ofByte 0x10 } { req := 0x00, enable := 0x00 } [(0xC000, 0x00)]
    (fun t => (t.cpu.pc, t.cpu.f.byte, t.busRead 0xC000, t.cycles)) = some (0x0102, 0x80, 0x00, 16) := by
  decide +kernel

/-- V88 of spec/95_test_vectors.md, rule R311: `RRC C`. -/
theorem test_rrcC_V88 : run1 [0xCB, 0x09] { start with c := 0x01, f := Flags.ofByte 0x00 } { req := 0x00, enable := 0x00 } []
    (fun t => (t.cpu.c, t.cpu.pc, t.cpu.f.byte, t.cycles)) = some (0x80, 0x0102, 0x10, 8) := by
  decide +kernel

/-- V89 of spec/95_test_vectors.md, rule R312: `RL L`. -/
theorem test_rlL_V89 : run1 [0xCB, 0x15] { start with l := 0x80, f := Flags.ofByte 0x00 } { req := 0x00, enable := 0x00 } []
    (fun t => (t.cpu.l, t.cpu.pc, t.cpu.f.byte, t.cycles)) = some (0x00, 0x0102, 0x90, 8) := by
  decide +kernel

/-- V92 of spec/95_test_vectors.md, rule R313: `RR (HL)`. -/
theorem test_rrMemHl_V92 : run1 [0xCB, 0x1E] { start with h := 0xC0, l := 0x00, f := Flags.ofByte 0x10 } { req := 0x00, enable := 0x00 } [(0xC000, 0x8A)]
    (fun t => (t.cpu.pc, t.cpu.f.byte, t.busRead 0xC000, t.cycles)) = some (0x0102, 0x00, 0xC5, 16) := by
  decide +kernel

/-- V93 of spec/95_test_vectors.md, rule R314: `SLA D`. -/
theorem test_slaD_V93 : run1 [0xCB, 0x22] { start with d := 0x80, f := Flags.ofByte 0x00 } { req := 0x00, enable := 0x00 } []
    (fun t => (t.cpu.d, t.cpu.pc, t.cpu.f.byte, t.cycles)) = some (0x00, 0x0102, 0x90, 8) := by
  decide +kernel

/-- V95 of spec/95_test_vectors.md, rule R315: `SRA A`. -/
theorem test_sraA_V95 : run1 [0xCB, 0x2F] { start with a := 0x8A, f := Flags.ofByte 0x00 } { req := 0x00, enable := 0x00 } []
    (fun t => (t.cpu.a, t.cpu.pc, t.cpu.f.byte, t.cycles)) = some (0xC5, 0x0102, 0x00, 8) := by
  decide +kernel

/-- V98 of spec/95_test_vectors.md, rule R316: `SWAP (HL)`. -/
theorem test_swapMemHl_V98 : run1 [0xCB, 0x36] { start with h := 0xC0, l := 0x00, f := Flags.ofByte 0x10 } { req := 0x00, enable := 0x00 } [(0xC000, 0x00)]
    (fun t => (t.cpu.pc, t.cpu.f.byte, t.busRead 0xC000, t.cycles)) = some (0x0102, 0x80, 0x00, 16) := by
  decide +kernel

/-- V100 of spec/95_test_vectors.md, rule R317: `SRL B`. -/
theorem test_srlB_V100 : run1 [0xCB, 0x38] { start with b := 0xFF, f := Flags.ofByte 0x00 } { req := 0x00, enable := 0x00 } []
    (fun t => (t.cpu.b, t.cpu.pc, t.cpu.f.byte, t.cycles)) = some (0x7F, 0x0102, 0x10, 8) := by
  decide +kernel

/-- V101 of spec/95_test_vectors.md, rule R318: `BIT 7,A`. -/
theorem test_bit7A_V101 : run1 [0xCB, 0x7F] { start with a := 0x80, f := Flags.ofByte 0x10 } { req := 0x00, enable := 0x00 } []
    (fun t => (t.cpu.pc, t.cpu.f.byte, t.cycles)) = some (0x0102, 0x30, 8) := by
  decide +kernel

/-- V102 of spec/95_test_vectors.md, rule R318: `BIT 4,L`. -/
theorem test_bit4L_V102 : run1 [0xCB, 0x65] { start with l := 0xEF, f := Flags.ofByte 0x40 } { req := 0x00, enable := 0x00 } []
    (fun t => (t.cpu.pc, t.cpu.f.byte, t.cycles)) = some (0x0102, 0xA0, 8) := by
  decide +kernel

/-- V105 of spec/95_test_vectors.md, rule R319: `RES 3,(HL)`. -/
theorem test_res3MemHl_V105 : run1 [0xCB, 0x9E] { start with h := 0xC0, l := 0x00, f := Flags.ofByte 0x00 } { req := 0x00, enable := 0x00 } [(0xC000, 0xFF)]
    (fun t => (t.cpu.pc, t.cpu.f.byte, t.busRead 0xC000, t.cycles)) = some (0x0102, 0x00, 0xF7, 16) := by
  decide +kernel

/-- V107 of spec/95_test_vectors.md, rule R320: `SET 7,(HL)`. -/
theorem test_set7MemHl_V107 : run1 [0xCB, 0xFE] { start with h := 0xC0, l := 0x00, f := Flags.ofByte 0xF0 } { req := 0x00, enable := 0x00 } [(0xC000, 0x00)]
    (fun t => (t.cpu.pc, t.cpu.f.byte, t.busRead 0xC000, t.cycles)) = some (0x0102, 0xF0, 0x80, 16) := by
  decide +kernel

/-- V108 of spec/95_test_vectors.md, rule R340: `JP a16`. -/
theorem test_jpA16_V108 : run1 [0xC3, 0x50, 0x01] { start with f := Flags.ofByte 0x00 } { req := 0x00, enable := 0x00 } []
    (fun t => (t.cpu.pc, t.cpu.f.byte, t.cycles)) = some (0x0150, 0x00, 16) := by
  decide +kernel

/-- V109 of spec/95_test_vectors.md, rule R341: `JP Z,a16`. -/
theorem test_jpZA16_V109 : run1 [0xCA, 0x00, 0x80] { start with f := Flags.ofByte 0x80 } { req := 0x00, enable := 0x00 } []
    (fun t => (t.cpu.pc, t.cpu.f.byte, t.cycles)) = some (0x8000, 0x80, 16) := by
  decide +kernel

/-- V110 of spec/95_test_vectors.md, rule R341: `JP Z,a16`. -/
theorem test_jpZA16_V110 : run1 [0xCA, 0x00, 0x80] { start with f := Flags.ofByte 0x00 } { req := 0x00, enable := 0x00 } []
    (fun t => (t.cpu.pc, t.cpu.f.byte, t.cycles)) = some (0x0103, 0x00, 12) := by
  decide +kernel

/-- V111 of spec/95_test_vectors.md, rule R342: `JP HL`. -/
theorem test_jpHl_V111 : run1 [0xE9] { start with h := 0xC0, l := 0x00, f := Flags.ofByte 0x00 } { req := 0x00, enable := 0x00 } []
    (fun t => (t.cpu.pc, t.cpu.f.byte, t.cycles)) = some (0xC000, 0x00, 4) := by
  decide +kernel

/-- V114 of spec/95_test_vectors.md, rule R343: `JR e8`. -/
theorem test_jrE8_V114 : run1 [0x18, 0x80] { start with f := Flags.ofByte 0x00 } { req := 0x00, enable := 0x00 } []
    (fun t => (t.cpu.pc, t.cpu.f.byte, t.cycles)) = some (0x0082, 0x00, 12) := by
  decide +kernel

/-- V117 of spec/95_test_vectors.md, rule R344: `JR C,e8`. -/
theorem test_jrCE8_V117 : run1 [0x38, 0xFB] { start with f := Flags.ofByte 0x10 } { req := 0x00, enable := 0x00 } []
    (fun t => (t.cpu.pc, t.cpu.f.byte, t.cycles)) = some (0x00FD, 0x10, 12) := by
  decide +kernel

/-- V118 of spec/95_test_vectors.md, rule R345: `CALL a16`. -/
theorem test_callA16_V118 : run1 [0xCD, 0x34, 0x12] { start with sp := 0xD000, f := Flags.ofByte 0x00 } { req := 0x00, enable := 0x00 } []
    (fun t => (t.cpu.sp, t.cpu.pc, t.cpu.f.byte, t.busRead 0xCFFF, t.busRead 0xCFFE, t.cycles)) = some (0xCFFE, 0x1234, 0x00, 0x01, 0x03, 24) := by
  decide +kernel

/-- V119 of spec/95_test_vectors.md, rule R346: `CALL NC,a16`. -/
theorem test_callNcA16_V119 : run1 [0xD4, 0x34, 0x12] { start with sp := 0xD000, f := Flags.ofByte 0x10 } { req := 0x00, enable := 0x00 } []
    (fun t => (t.cpu.pc, t.cpu.f.byte, t.cycles)) = some (0x0103, 0x10, 12) := by
  decide +kernel

/-- V120 of spec/95_test_vectors.md, rule R346: `CALL NC,a16`. -/
theorem test_callNcA16_V120 : run1 [0xD4, 0x34, 0x12] { start with sp := 0xD000, f := Flags.ofByte 0x00 } { req := 0x00, enable := 0x00 } []
    (fun t => (t.cpu.sp, t.cpu.pc, t.cpu.f.byte, t.busRead 0xCFFF, t.busRead 0xCFFE, t.cycles)) = some (0xCFFE, 0x1234, 0x00, 0x01, 0x03, 24) := by
  decide +kernel

/-- V121 of spec/95_test_vectors.md, rule R349: `RET`. -/
theorem test_ret_V121 : run1 [0xC9] { start with sp := 0xCFFE, f := Flags.ofByte 0x00 } { req := 0x00, enable := 0x00 } [(0xCFFE, 0x03), (0xCFFF, 0x01)]
    (fun t => (t.cpu.sp, t.cpu.pc, t.cpu.f.byte, t.cycles)) = some (0xD000, 0x0103, 0x00, 16) := by
  decide +kernel

/-- V122 of spec/95_test_vectors.md, rule R350: `RET Z`. -/
theorem test_retZ_V122 : run1 [0xC8] { start with sp := 0xCFFE, f := Flags.ofByte 0x80 } { req := 0x00, enable := 0x00 } [(0xCFFE, 0x03), (0xCFFF, 0x01)]
    (fun t => (t.cpu.sp, t.cpu.pc, t.cpu.f.byte, t.cycles)) = some (0xD000, 0x0103, 0x80, 20) := by
  decide +kernel

/-- V123 of spec/95_test_vectors.md, rule R350: `RET Z`. -/
theorem test_retZ_V123 : run1 [0xC8] { start with sp := 0xCFFE, f := Flags.ofByte 0x00 } { req := 0x00, enable := 0x00 } [(0xCFFE, 0x03), (0xCFFF, 0x01)]
    (fun t => (t.cpu.pc, t.cpu.f.byte, t.cycles)) = some (0x0101, 0x00, 8) := by
  decide +kernel

/-- V125 of spec/95_test_vectors.md, rule R351: `RETI`. -/
theorem test_reti_V125 : run1 [0xD9] { start with sp := 0xCFFC, ime := false, f := Flags.ofByte 0x00 } { req := 0x04, enable := 0x04 } [(0xCFFC, 0x03), (0xCFFD, 0x01)]
    (fun t => (t.cpu.pc, t.irq.req, t.cpu.f.byte, t.busRead 0xCFFD, t.busRead 0xCFFC, t.cycles)) = some (0x0050, 0x00, 0x00, 0x01, 0x03, 36) := by
  decide +kernel

/-- V126 of spec/95_test_vectors.md, rule R352: `RST 28H`. -/
theorem test_rst28_V126 : run1 [0xEF] { start with sp := 0xD000, f := Flags.ofByte 0x00 } { req := 0x00, enable := 0x00 } []
    (fun t => (t.cpu.sp, t.cpu.pc, t.cpu.f.byte, t.busRead 0xCFFF, t.busRead 0xCFFE, t.cycles)) = some (0xCFFE, 0x0028, 0x00, 0x01, 0x01, 16) := by
  decide +kernel

/-- V127 of spec/95_test_vectors.md, rule R370: `NOP`. -/
theorem test_nop_V127 : run1 [0x00] { start with f := Flags.ofByte 0xF0 } { req := 0x00, enable := 0x00 } []
    (fun t => (t.cpu.pc, t.cpu.f.byte, t.cycles)) = some (0x0101, 0xF0, 4) := by
  decide +kernel

/-- V128 of spec/95_test_vectors.md, rule R372: `HALT`. -/
theorem test_halt_V128 : run1 [0x76] { start with f := Flags.ofByte 0x00 } { req := 0x00, enable := 0x00 } []
    (fun t => (t.cpu.pc, t.cpu.halted, t.cpu.f.byte, t.cycles)) = some (0x0101, true, 0x00, 4) := by
  decide +kernel

/-- V130 of spec/95_test_vectors.md, rule R374: `DI`. -/
theorem test_di_V130 : run1 [0xF3] { start with ime := true, imePending := true, f := Flags.ofByte 0x00 } { req := 0x00, enable := 0x00 } []
    (fun t => (t.cpu.pc, t.cpu.ime, t.cpu.imePending, t.cpu.f.byte, t.cycles)) = some (0x0101, false, false, 0x00, 4) := by
  decide +kernel

/-- V131 of spec/95_test_vectors.md, rule R375: `EI`. -/
theorem test_ei_V131 : run1 [0xFB] { start with ime := false, f := Flags.ofByte 0x00 } { req := 0x00, enable := 0x00 } []
    (fun t => (t.cpu.pc, t.cpu.ime, t.cpu.f.byte, t.cycles)) = some (0x0101, true, 0x00, 4) := by
  decide +kernel

/-! ## Interrupts, timer, DMA, PPU, fatal (spec/95_test_vectors.md, parts 1 and 3) -/

/-- S5: with VBlank and Timer requested and enabled, a NOP is followed by one dispatch, to 0x0040. -/
theorem test_dispatch_S5 : run1 [0x00] { start with ime := true } { req := 0x05, enable := 0x1F } []
    (fun t => (t.cpu.pc, t.cpu.sp, t.irq.req, t.cpu.ime, t.cycles)) = some (0x0040, 0xFFFC, 0x04, false, 24) := by
  decide +kernel

/-- S5: the return address 0x0101 is on the stack. -/
theorem test_dispatch_stack_S5 : run1 [0x00] { start with ime := true } { req := 0x05, enable := 0x1F } []
    (fun t => (t.busRead 0xFFFD, t.busRead 0xFFFC)) = some (0x01, 0x01) := by
  decide +kernel

/-- The timer of S6, at an overflow. -/
def timerS6 : State :=
  { State.reset with timer := { div16 := 0x000F, tima := 0xFF, tma := 0x23, tac := 5 }, irq := { req := 0, enable := 0 } }

/-- S6: TIMA reloads in the tick of its overflow and source 2 is requested. -/
theorem test_timer_overflow_S6 :
    (timerS6.timerTick.timer.div16, timerS6.timerTick.timer.tima, timerS6.timerTick.irq.req) = (0x0010, 0x23, 0x04) := by
  decide +kernel

/-- The DMA controller of S7, two bytes of its source written. -/
def dmaS7 : State :=
  { State.reset with mem := [(0xC000, 0x09), (0xC001, 0x0E), (0xFE00, 0x77)] }.busWrite 0xFF46 0xC0

/-- S7: after two ticks OAM is blocked and not yet written. -/
theorem test_dma_delay_S7 : (dmaS7.busRead 0xFE00, dmaS7.dmaTick.dmaTick.busRead 0xFE00,
    dmaS7.dmaTick.dmaTick.mem.byteAt 0xFE00) = (0x77, 0xFF, 0x77) := by
  decide +kernel

/-- S7: the third tick copies the first byte, under the block. -/
theorem test_dma_first_byte_S7 : (dmaS7.dmaTick.dmaTick.dmaTick.dma.index, dmaS7.dmaTick.dmaTick.dmaTick.mem.byteAt 0xFE00,
    dmaS7.dmaTick.dmaTick.dmaTick.busRead 0xFE00) = (1, 0x09, 0xFF) := by
  decide +kernel

/-- V129: STOP sets the latch, PC stays at the opcode and nothing is advanced. -/
theorem test_stop_V129 : run1 [0x10, 0x00] start { req := 0, enable := 0 } [] (fun t => (t.cpu.fatal, t.cpu.pc, t.cycles)) =
    some (some (.stopUnmodelled 0x0100), 0x0100, 0) := by
  decide +kernel

/-- V132: an undefined opcode sets the latch, PC stays at the opcode and nothing is advanced. -/
theorem test_illegal_V132 : run1 [0xD3] start { req := 0, enable := 0 } [] (fun t => (t.cpu.fatal, t.cpu.pc, t.cycles)) =
    some (some (.illegalOpcode 0xD3 0x0100), 0x0100, 0) := by
  decide +kernel

/-- The step after that has no next state (rule R421). -/
theorem test_illegal_stops : run1 [0xD3] start { req := 0, enable := 0 } [] (fun t => match step t with
    | .fault r => some r
    | .next _ => none
    | .refused _ => none) = some (some (.illegalOpcode 0xD3 0x0100)) := by
  decide +kernel

/-! ## The environment -/

/-- Rules R6 (P7) and R408: from reset nothing is known of what EXT requests. -/
theorem test_environment_free : State.reset.extRequest = { serial := Config.extSerial 0, joypad := Config.extJoypad 0 } := rfl

/-- Rules R408 and R432: a Joypad request between two steps wakes a halted CPU, whatever IE and IME hold. -/
theorem test_joypad_wakes :
    (match step { State.reset with
        cpu := { start with halted := true }, irq := { req := 0, enable := 0 }
        extRequests := [{ serial := false, joypad := true }] } with
      | .next t => some (t.cpu.halted, t.irq.req, t.cpu.pc, t.cycles)
      | .fault _ => none
      | .refused _ => none) = some (false, 0b10000, 0x0100, 4) := by
  decide +kernel

/-! ## Witnesses: for each statement with hypotheses, states and operands that meet all of them -/

/-- Reset with a program at 0x0100 and no request. -/
def quiet (bytes : List Byte) : State := atStart bytes start { req := 0, enable := 0 } []

/-- Reset with the PPU at a dot of a line. -/
def ppuAt (mode : PpuMode) (ly : Byte) (dot : Nat) : State :=
  { State.reset with
    ppu := { State.reset.ppu with mode := mode, ly := ly, lineDot := dot }, cycles := ly.toNat * 456 + dot }

/-- A Draw dot of line 0 with the fetcher where its schedule puts it. -/
def drawAt (dot pushed len : Nat) : State :=
  { ppuAt .draw 0 dot with fetcher := { Fetcher.cleared with
    phase := drawPhase dot, fetchX := 8 * ((drawSteps dot + 4) / 5), fifoX := 8 * (drawSteps dot / 5),
    lineX := drawPops dot, pushedX := pushed, fifo := List.replicate len 0 } }

/-- A fetcher about to push one group under one sprite. -/
def pushing (lcdc attr : Byte) : State :=
  { ppuAt .draw 0 98 with
    ppu := { (ppuAt .draw 0 98).ppu with lcdc := lcdc }
    fetcher := { Fetcher.cleared with
      phase := .push, fifo := List.replicate 8 0, fifoX := 8, bgwLo := 0xF0, bgwHi := 0x0F
      fetched := [{ entry := { y := 16, x := 16, tile := 0, attr := attr }, lo := 0xFF, hi := 0x00 }] } }

theorem witness_EncodeDecode : decode [0xCB, 0x3F, 0x00] = .ok (.srlA, [0x00]) ∧ Instr.srlA ≠ .stop := ⟨rfl, by decide⟩

theorem witness_StepRunsDecoded : ∃ s : State, s.cpu.fatal = none ∧ s.cpu.halted = false ∧
    decode [s.extTurn.busRead 0x0100, s.extTurn.busRead 0x0101, s.extTurn.busRead 0x0102] = .ok (.jpA16 0x1234, []) ∧
    s.extTurn.cpu.pc = 0x0100 :=
  ⟨quiet [0xC3, 0x34, 0x12], rfl, rfl, rfl, rfl⟩

/-- The last address of the space: a fetch wraps to 0x0000. -/
theorem witness_StepRunsDecoded_wrap : ∃ s : State, s.cpu.fatal = none ∧ s.cpu.halted = false ∧ s.cpu.pc = 0xFFFF ∧
    decode [s.extTurn.busRead 0xFFFF, s.extTurn.busRead 0x0000, s.extTurn.busRead 0x0001] = .ok (.ldBD8 0x55, [0x66]) :=
  ⟨{ State.reset with
      cart := .romOnly [(0, 0x55), (1, 0x66)], cpu := { start with pc := 0xFFFF }, irq := { req := 0, enable := 0x06 } },
    rfl, rfl, rfl, rfl⟩

theorem witness_HaltedStep : ∃ s : State, s.cpu.fatal = none ∧ s.cpu.halted = true :=
  ⟨{ State.reset with cpu := { start with halted := true } }, rfl, rfl⟩

theorem witness_FatalStops : (∃ s : State, s.cpu.fatal = some (.illegalOpcode 0xFD 0x0100)) ∧
    ∃ s : State, s.cpu.fatal = some (.stopUnmodelled 0x0100) :=
  ⟨⟨{ State.reset with cpu := { start with fatal := some (.illegalOpcode 0xFD 0x0100) } }, rfl⟩,
    ⟨{ State.reset with cpu := { start with fatal := some (.stopUnmodelled 0x0100) } }, rfl⟩⟩

theorem witness_StepTime : State.reset.cpu.fatal = none := rfl

/-- The least and the greatest source. -/
theorem witness_DispatchTakesLeast :
    (∃ s : State, s.irq.req.getLsbD 0 = true ∧ s.irq.enable.getLsbD 0 = true ∧
      ∀ j, j < 0 → ¬ (s.irq.req.getLsbD j = true ∧ s.irq.enable.getLsbD j = true)) ∧
    ∃ s : State, s.irq.req.getLsbD 4 = true ∧ s.irq.enable.getLsbD 4 = true ∧
      ∀ j, j < 4 → ¬ (s.irq.req.getLsbD j = true ∧ s.irq.enable.getLsbD j = true) :=
  ⟨⟨{ State.reset with irq := { req := 0x1F, enable := 0x1F } }, by decide⟩,
    ⟨{ State.reset with irq := { req := 0x1F, enable := 0x10 } }, by decide⟩⟩

theorem witness_NoDispatch : (∀ j, j < 5 → ¬ (State.reset.irq.req.getLsbD j = true ∧
    State.reset.irq.enable.getLsbD j = true)) ∧ State.reset.cpu.ime = false := by
  decide

theorem witness_EiDiLatency : (quiet [0xFB]).cpu.fatal = none ∧ (quiet [0xFB]).cpu.halted = false ∧
    (quiet [0xFB]).cpu.ime = false ∧ (quiet [0xFB]).extTurn.busRead (quiet [0xFB]).cpu.pc = 0xFB ∧
    (quiet [0xF3]).extTurn.busRead (quiet [0xF3]).cpu.pc = 0xF3 :=
  ⟨rfl, rfl, rfl, rfl, rfl⟩

/-- No edge; an edge below the overflow; an edge at it. -/
theorem witness_TimerTick :
    (∃ s : State, ¬ (4 ≤ s.timer.tac.toNat ∧ s.timer.div16.toNat / 2 ^ 3 % 2 = 1 ∧
      (s.timer.div16.toNat + 1) % 2 ^ 16 / 2 ^ 3 % 2 = 0) ∧ s.timer.tac = 5) ∧
    (∃ s : State, s.timer.tac = 5 ∧ s.timer.div16.toNat / 2 ^ 3 % 2 = 1 ∧
      (s.timer.div16.toNat + 1) % 2 ^ 16 / 2 ^ 3 % 2 = 0 ∧ s.timer.tima ≠ 0xFF) ∧
    (∃ s : State, s.timer.tac = 5 ∧ s.timer.div16.toNat / 2 ^ 3 % 2 = 1 ∧
      (s.timer.div16.toNat + 1) % 2 ^ 16 / 2 ^ 3 % 2 = 0 ∧ s.timer.tima = 0xFF) :=
  ⟨⟨{ timerS6 with timer := { timerS6.timer with div16 := 0x000E } }, by decide⟩,
    ⟨{ timerS6 with timer := { timerS6.timer with div16 := 0xFFFF, tima := 0xFE } }, by decide⟩, ⟨timerS6, by decide⟩⟩

/-- 255 increments from 0 are allowed, and a disabled timer. -/
theorem witness_TimerRate : (∃ s : State, 4 ≤ s.timer.tac.toNat ∧ s.timer.tac.toNat % 4 = 1 ∧
    s.timer.tima.toNat + (s.timer.div16.toNat % 2 ^ 4 + 4095) / 2 ^ 4 < 256) ∧ State.reset.timer.tac.toNat < 4 :=
  ⟨⟨{ State.reset with timer := { div16 := 0, tima := 0, tma := 0, tac := 5 } }, by decide⟩, by decide⟩

theorem witness_DmaTick : State.reset.dma.state = .idle ∧ dmaS7.dma.state = .startDelay ∧ dmaS7.dma.delay = 2 ∧
    ∃ s : State, s.dma.state = .transfer ∧ s.dma.index = 159 :=
  ⟨rfl, rfl, rfl, ⟨{ State.reset with dma := { state := .transfer, delay := 0, index := 159, page := 0xC0 } }, rfl, rfl⟩⟩

/-- The last page and the last byte, and addresses on both sides of OAM. -/
theorem witness_DmaTransfer : (0xFD : Byte).toNat < 0xFE ∧ 159 < 160 ∧ ¬ (0xFE00 ≤ 0xFDFF ∧ 0xFDFF < 0xFEA0) ∧
    ¬ (0xFE00 ≤ 0xFEA0 ∧ 0xFEA0 < 0xFEA0) := by
  decide

theorem witness_OamBlocking : (∀ a : Word, a = 0xFE00 ∨ a = 0xFE9F → 0xFE00 ≤ a.toNat ∧ a.toNat < 0xFEA0) ∧
    (∃ s : State, s.dma.state = .transfer) ∧ dmaS7.dma.state ≠ .transfer := by
  refine ⟨?_, ⟨{ State.reset with dma := { state := .transfer, delay := 0, index := 0, page := 0xC0 } }, rfl⟩, by decide⟩
  rintro a (rfl | rfl) <;> decide

/-- The dot before a line end, the end of line 143 in HBlank, of line 152 and of line 153 in VBlank. -/
theorem witness_LineEnds :
    ((ppuAt .hblank 0 454).ClockOk ∧ (ppuAt .hblank 0 454).ModeOk ∧ (ppuAt .hblank 0 454).ppu.lineDot < 455) ∧
    ((ppuAt .hblank 143 455).ClockOk ∧ (ppuAt .hblank 143 455).ModeOk) ∧
    ((ppuAt .vblank 152 455).ClockOk ∧ (ppuAt .vblank 152 455).ModeOk) ∧
    ((ppuAt .vblank 153 455).ClockOk ∧ (ppuAt .vblank 153 455).ModeOk ∧ (ppuAt .vblank 153 455).ppu.ly.toNat = 153) :=
  ⟨⟨⟨by decide, by decide, by decide⟩, by simp [State.ModeOk, ppuAt], by decide⟩,
    ⟨⟨by decide, by decide, by decide⟩, by simp [State.ModeOk, ppuAt]⟩,
    ⟨⟨by decide, by decide, by decide⟩, by simp [State.ModeOk, ppuAt]⟩,
    ⟨⟨by decide, by decide, by decide⟩, by simp [State.ModeOk, ppuAt], by decide⟩⟩

theorem witness_VBlankEntry : (ppuAt .hblank 143 455).ppu.mode = .hblank ∧ (ppuAt .hblank 143 455).ppu.lineDot = 455 ∧
    (ppuAt .hblank 143 455).ppu.ly.toNat < 144 := by
  decide

theorem witness_SpriteSelection : (ppuAt .oamScan 0 79).ppu.mode = .oamScan ∧ (ppuAt .oamScan 0 79).ppu.lineDot = 79 := by
  decide

/-- Dot 304 of a line with seven pixels discarded, and dot 295 of one with none. -/
theorem witness_DrawEnds :
    ((drawAt 304 159 10).ModeOk ∧ (drawAt 304 159 10).FetchOk ∧ (drawAt 304 159 10).ppu.mode = .draw ∧
      (drawAt 304 159 10).ppu.lineDot = 304) ∧
    ((drawAt 295 159 9).ModeOk ∧ (drawAt 295 159 9).FetchOk ∧ (drawAt 295 159 9).ppuTick.ppu.mode = .hblank) :=
  ⟨⟨by simp [State.ModeOk, drawAt, ppuAt], ⟨by decide, by decide, by decide, by decide, by decide, by decide, by decide, by decide, by decide⟩, rfl, rfl⟩,
    ⟨by simp [State.ModeOk, drawAt, ppuAt], ⟨by decide, by decide, by decide, by decide, by decide, by decide, by decide, by decide, by decide⟩, by decide +kernel⟩⟩

theorem witness_PushBackground : (pushing 0x91 0).fetcher.phase = .push ∧ (pushing 0x91 0).fetcher.fifo.length ≤ 8 ∧
    (pushing 0x91 0).ppu.lcdc.getLsbD 1 = false := by
  decide

/-- At pixel 0 a sprite that shows, and one that loses to the background. -/
theorem witness_SpriteOverride :
    ((pushing 0x93 0).fetcher.phase = .push ∧ (pushing 0x93 0).fetcher.fifo.length ≤ 8 ∧
      (pushing 0x93 0).ppu.lcdc.getLsbD 1 = true ∧
      (pushing 0x93 0).fetcher.fetched = [] ++ { entry := { y := 16, x := 16, tile := 0, attr := 0 }, lo := 0xFF, hi := 0x00 } :: [] ∧
      spriteShade (pushing 0x93 0).ppu 1 8 { entry := { y := 16, x := 16, tile := 0, attr := 0 }, lo := 0xFF, hi := 0x00 } = some 3) ∧
    ((pushing 0x93 0x80).fetcher.phase = .push ∧
      ∀ u ∈ (pushing 0x93 0x80).fetcher.fetched, spriteShade (pushing 0x93 0x80).ppu 1 8 u = none) := by
  decide +kernel

/-- Eight entries; nine with a pixel discarded; nine with the last pixel of the last line written. -/
theorem witness_PusherStep :
    (∃ s : State, s.fetcher.fifo.length ≤ 8) ∧
    (∃ s : State, s.fetcher.fifo = 2 :: List.replicate 8 0 ∧ s.fetcher.lineX < s.ppu.scx.toNat % 8) ∧
    (∃ s : State, s.fetcher.fifo = 2 :: List.replicate 8 0 ∧ s.ppu.scx.toNat % 8 ≤ s.fetcher.lineX ∧
      s.fetcher.pushedX = 159 ∧ s.ppu.ly.toNat = 143) :=
  ⟨⟨State.reset, by decide⟩,
    ⟨{ State.reset with
        ppu := { State.reset.ppu with scx := 0xFF }
        fetcher := { Fetcher.cleared with lineX := 6, fifo := 2 :: List.replicate 8 0 } }, by decide⟩,
    ⟨{ State.reset with
        ppu := { State.reset.ppu with ly := 143 }
        fetcher := { Fetcher.cleared with lineX := 159, pushedX := 159, fifo := 2 :: List.replicate 8 0 } }, by decide⟩⟩

/-- The signed tile area with the window off; a window group at the last WX and WY. -/
theorem witness_TileFetch :
    (∃ s : State, s.fetcher.phase = .fetchTileId ∧ s.ppu.lcdc.getLsbD 4 = false ∧ s.ppu.lcdc.getLsbD 5 = false) ∧
    (∃ s : State, s.fetcher.phase = .fetchTileId ∧ s.ppu.lcdc.getLsbD 4 = true ∧ s.ppu.lcdc.getLsbD 5 = true ∧
      s.ppu.wx.toNat = 166 ∧ s.ppu.wy.toNat = 143 ∧ s.ppu.wy.toNat ≤ s.ppu.ly.toNat ∧
      s.ppu.wx.toNat ≤ s.fetcher.fetchX + 7) :=
  ⟨⟨{ State.reset with ppu := { State.reset.ppu with lcdc := 0x81 } }, by decide⟩,
    ⟨{ State.reset with
        ppu := { State.reset.ppu with lcdc := 0xB1, wx := 166, wy := 143, ly := 143 }
        fetcher := { Fetcher.cleared with fetchX := 160 } }, by decide⟩⟩

/-- A halted state of line 0 that is kept and has a step. -/
theorem witness_StepKeepsInv : ∃ s t : State, s.Inv ∧ step s = .next t := by
  refine ⟨{ State.reset with cpu := { start with halted := true } }, _, ⟨⟨rfl, rfl, rfl, fun fb h => nomatch h⟩,
    ⟨by decide, by decide, by decide⟩, by simp [State.ModeOk, State.reset],
    ⟨by decide, by decide, by decide, by decide, by decide, by decide, by decide, by decide, by decide⟩,
    by simp [State.DmaOk, State.reset], rfl⟩, rfl⟩

/-- Both ends of every range of the address map. -/
theorem witness_BusRegions :
    (∀ a : Word, a = 0x8000 ∨ a = 0x9FFF ∨ a = 0xC000 ∨ a = 0xDFFF ∨ a = 0xFF80 ∨ a = 0xFFFE →
      (0x8000 ≤ a.toNat ∧ a.toNat < 0xA000) ∨ (0xC000 ≤ a.toNat ∧ a.toNat < 0xE000) ∨
        (0xFF80 ≤ a.toNat ∧ a.toNat < 0xFFFF)) ∧
    (∀ a : Word, a = 0xE000 ∨ a = 0xFDFF → 0xE000 ≤ a.toNat ∧ a.toNat < 0xFE00) ∧
    (∀ a : Word, a = 0xFEA0 ∨ a = 0xFEFF → 0xFEA0 ≤ a.toNat ∧ a.toNat < 0xFF00) ∧
    (∀ a : Word, a = 0x0000 ∨ a = 0x7FFF ∨ a = 0xA000 ∨ a = 0xBFFF →
      a.toNat < 0x8000 ∨ (0xA000 ≤ a.toNat ∧ a.toNat < 0xC000)) ∧
    (∃ rom, State.reset.cart = .romOnly rom) := by
  refine ⟨?_, ?_, ?_, ?_, ⟨[], rfl⟩⟩
  · rintro a (rfl | rfl | rfl | rfl | rfl | rfl) <;> decide
  · rintro a (rfl | rfl) <;> decide
  · rintro a (rfl | rfl) <;> decide
  · rintro a (rfl | rfl | rfl | rfl) <;> decide

/-- The unmapped addresses at both ends of their ranges. -/
theorem witness_IoReadBack : ∀ a : Word,
    a = 0xFF08 ∨ a = 0xFF0E ∨ a = 0xFF10 ∨ a = 0xFF3F ∨ a = 0xFF4C ∨ a = 0xFF7F →
    (0xFF08 ≤ a.toNat ∧ a.toNat < 0xFF0F) ∨ (0xFF10 ≤ a.toNat ∧ a.toNat < 0xFF40) ∨
      (0xFF4C ≤ a.toNat ∧ a.toNat < 0xFF80) := by
  rintro a (rfl | rfl | rfl | rfl | rfl | rfl) <;> decide

/-- A stack at the top of VRAM, and one that ends at 0xFF80. -/
theorem witness_StackPushPop : ∀ sp : Word, sp = 0xA000 ∨ sp = 0xFF82 → ∀ a : Word, a = sp - 1 ∨ a = sp - 2 →
    (0x8000 ≤ a.toNat ∧ a.toNat < 0xA000) ∨ (0xC000 ≤ a.toNat ∧ a.toNat < 0xE000) ∨
      (0xFF80 ≤ a.toNat ∧ a.toNat < 0xFFFF) := by
  rintro sp (rfl | rfl) a (rfl | rfl) <;> decide

theorem witness_LoadRegister : Instr.shape .ldAL = .ldRegReg .a .l ∧ Instr.shape (.ldBD8 0x9C) = .ldRegImm .b 0x9C :=
  ⟨rfl, rfl⟩

theorem witness_LoadFromMemory : Instr.shape .ldHMemHl = .ldRegHl .h ∧ Instr.shape .ldAMemBc = .ldAInd .bc ∧
    Instr.shape .ldAMemDe = .ldAInd .de ∧ Instr.shape (.ldAMemA16 0xFFFF) = .ldAAbs 0xFFFF ∧
    Instr.shape (.ldhAMemA8 0xFF) = .ldhA 0xFF ∧ Instr.shape .ldAMemC = .ldAHighC :=
  ⟨rfl, rfl, rfl, rfl, rfl, rfl⟩

theorem witness_StoreToMemory : Instr.shape .ldMemHlL = .ldHlReg .l ∧ Instr.shape (.ldMemHlD8 0x42) = .ldHlImm 0x42 ∧
    Instr.shape .ldMemBcA = .ldIndA .bc ∧ Instr.shape .ldMemDeA = .ldIndA .de ∧
    Instr.shape (.ldMemA16A 0x0000) = .ldAbsA 0x0000 ∧ Instr.shape (.ldhMemA8A 0x80) = .ldhStoreA 0x80 ∧
    Instr.shape .ldMemCA = .ldHighCA :=
  ⟨rfl, rfl, rfl, rfl, rfl, rfl, rfl⟩

theorem witness_LoadStoreStepHl : Instr.shape .ldAMemHlInc = .ldAHlStep .inc ∧ Instr.shape .ldAMemHlDec = .ldAHlStep .dec ∧
    Instr.shape .ldMemHlIncA = .ldHlStepA .inc ∧ Instr.shape .ldMemHlDecA = .ldHlStepA .dec :=
  ⟨rfl, rfl, rfl, rfl⟩

theorem witness_LoadPair : Instr.shape (.ldSpD16 0xFFFE) = .ldPairImm .sp 0xFFFE ∧ Instr.shape .ldSpHl = .ldSpHl ∧
    Instr.shape (.ldMemA16Sp 0xFFFF) = .ldAbsSp 0xFFFF :=
  ⟨rfl, rfl, rfl⟩

theorem witness_PushPop : Instr.shape .pushAf = .push .af ∧ Instr.shape .popAf = .pop .af := ⟨rfl, rfl⟩

theorem witness_SpPlusSigned : Instr.shape (.ldHlSpE8 0x80) = .ldHlSpE8 0x80 ∧ Instr.shape (.addSpE8 0x7F) = .addSp 0x7F :=
  ⟨rfl, rfl⟩

theorem witness_AddAdc : Instr.shape .addAMemHl = .alu .add .mem ∧ Instr.shape (.adcAD8 0xFF) = .alu .adc (.imm 0xFF) :=
  ⟨rfl, rfl⟩

theorem witness_SubSbcCp : Instr.shape .subAA = .alu .sub (.reg .a) ∧ Instr.shape .sbcAMemHl = .alu .sbc .mem ∧
    Instr.shape (.cpAD8 0x00) = .alu .cp (.imm 0x00) :=
  ⟨rfl, rfl, rfl⟩

theorem witness_Logic : Instr.shape .andAB = .alu .and (.reg .b) ∧ Instr.shape .xorAMemHl = .alu .xor .mem ∧
    Instr.shape (.orAD8 0x0F) = .alu .or (.imm 0x0F) :=
  ⟨rfl, rfl, rfl⟩

theorem witness_IncDec : Instr.shape .incA = .incReg .a ∧ Instr.shape .decB = .decReg .b ∧
    Instr.shape .incMemHl = .incMem ∧ Instr.shape .decMemHl = .decMem :=
  ⟨rfl, rfl, rfl, rfl⟩

theorem witness_DaaCplScfCcf : Instr.shape .daa = .daa ∧ Instr.shape .cpl = .cpl ∧ Instr.shape .scf = .scf ∧
    Instr.shape .ccf = .ccf :=
  ⟨rfl, rfl, rfl, rfl⟩

/-- 99 + 99 + 1, the greatest decimal sum. -/
theorem witness_DecimalArithmetic : ∃ s t : State, Instr.shape (.adcAD8 0x99) = .alu .adc (.imm 0x99) ∧
    Instr.shape .daa = .daa ∧ isBcd s.cpu.a ∧ isBcd (s.readSrc (.imm 0x99)) ∧ exec (.adcAD8 0x99) s = .next t :=
  ⟨{ State.reset with cpu := { start with a := 0x99, f := Flags.ofByte 0x10 } }, _, rfl, rfl, ⟨by decide, by decide⟩,
    ⟨by decide, by decide⟩, exec_eq _ _⟩

theorem witness_PairArithmetic : Instr.shape .addHlHl = .addHl .hl ∧ Instr.shape .incSp = .incPair .sp ∧
    Instr.shape .decBc = .decPair .bc :=
  ⟨rfl, rfl, rfl⟩

theorem witness_RotateShift : Instr.shape .rlca = .rotA .rlc ∧ Instr.shape .swapD = .rot .swap (.reg .d) ∧
    Instr.shape .rrMemHl = .rot .rr .mem :=
  ⟨rfl, rfl, rfl⟩

theorem witness_BitTest : Instr.shape .bit7A = .bit 7 (.reg .a) ∧ Instr.shape .bit0MemHl = .bit 0 .mem := ⟨rfl, rfl⟩

theorem witness_BitResetSet : Instr.shape .res0B = (if false then .setBit 0 (.reg .b) else .res 0 (.reg .b)) ∧
    Instr.shape .set7MemHl = (if true then .setBit 7 .mem else .res 7 .mem) :=
  ⟨rfl, rfl⟩

theorem witness_Jumps : Instr.shape (.jpA16 0xFFFF) = .jp 0xFFFF ∧ Instr.shape (.jpNzA16 0) = .jpCond .nz 0 ∧
    Instr.shape .jpHl = .jpHl ∧ Instr.shape (.jrE8 0x80) = .jr 0x80 ∧ Instr.shape (.jrCE8 0x7F) = .jrCond .c 0x7F :=
  ⟨rfl, rfl, rfl, rfl, rfl⟩

theorem witness_Calls : Instr.shape (.callA16 0x1234) = .call 0x1234 ∧ Instr.shape (.callNcA16 0) = .callCond .nc 0 ∧
    Instr.shape .rst38 = .rst 7 :=
  ⟨rfl, rfl, rfl⟩

theorem witness_Returns : Instr.shape .ret = .ret ∧ Instr.shape .retZ = .retCond .z ∧ Instr.shape .reti = .reti :=
  ⟨rfl, rfl, rfl⟩

theorem witness_SystemInstructions : Instr.shape .nop = .nop ∧ Instr.shape .halt = .halt ∧ Instr.shape .di = .di ∧
    Instr.shape .ei = .ei :=
  ⟨rfl, rfl, rfl, rfl⟩

theorem witness_FatalOpcodes : Instr.shape .stop = .stop ∧ Instr.shape .illegalD3 = .illegal 0xD3 ∧
    Instr.shape .illegalFD = .illegal 0xFD :=
  ⟨rfl, rfl, rfl⟩

/-- A store to 0xFFFE: no other byte, neither the cartridge nor IE nor a device is stored to. -/
theorem witness_FrameMemory : ∃ s t : State, exec (.ldMemA16A 0xFFFE) s = .next t ∧
    (∀ a ∈ storeAddrs (.ldAbsA 0xFFFE) s, a.toNat ≠ 0xFFFF) ∧
    (∀ a ∈ storeAddrs (.ldAbsA 0xFFFE) s, 0x8000 ≤ a.toNat ∧ (a.toNat < 0xA000 ∨ 0xC000 ≤ a.toNat)) ∧
    (∀ a ∈ storeAddrs (.ldAbsA 0xFFFE) s, a ≠ 0xFFFF) ∧
    (∀ a ∈ storeAddrs (.ldAbsA 0xFFFE) s, a.toNat < 0xFF00 ∨ 0xFF80 ≤ a.toNat) :=
  ⟨State.reset, shapeRun (.ldAbsA 0xFFFE) State.reset, exec_of_shape rfl _, by simp [storeAddrs], by simp [storeAddrs],
    by simp [storeAddrs], by simp [storeAddrs]⟩

theorem witness_FrameRegisters : ∃ s t : State, exec .popBc s = .next t ∧ CpuReg.a ∉ destRegs (Instr.shape .popBc) ∧
    flagWrites (Instr.shape .popBc) = (false, false, false, false) :=
  ⟨State.reset, _, exec_eq _ _, by decide, rfl⟩

theorem witness_FrameControl : ∃ s t : State, exec .nop s = .next t ∧ Instr.shape .nop ≠ .di ∧ Instr.shape .nop ≠ .reti ∧
    Instr.shape .nop ≠ .ei ∧ Instr.shape .nop ≠ .halt ∧ Instr.shape .nop ≠ .stop ∧ Instr.wellFormed .nop = true :=
  ⟨State.reset, _, exec_eq _ _, by decide, by decide, by decide, by decide, by decide, rfl⟩

end Sys2Proof.Tests
end

section

namespace Sys2Proof.Machine

/-! ## The environment's turn (rules R6 P7 and R408; log entry 7) -/

theorem State.extRequest_serial (s : State) : s.extRequest.serial =
    (s.extRequests.head?.map ExtRequest.serial).getD (Config.extSerial s.extTurns) := by
  unfold State.extRequest
  cases s.extRequests with
  | nil => rfl
  | cons r rs => rfl

theorem State.extRequest_joypad (s : State) : s.extRequest.joypad =
    (s.extRequests.head?.map ExtRequest.joypad).getD (Config.extJoypad s.extTurns) := by
  unfold State.extRequest
  cases s.extRequests with
  | nil => rfl
  | cons r rs => rfl

/-- Settles O11: the turn ORs in the bits of `extRequest`, whose two fields are the list's first entry or the free
values. -/
theorem environmentTurn : Obligations.EnvironmentTurn := by
  intro s
  rw [← State.extRequest_serial, ← State.extRequest_joypad]
  rfl

end Sys2Proof.Machine

end

section

namespace Sys2Proof.Machine

/-! ## Time does not touch the CPU (rule R20) -/

@[simp] theorem State.timerTick_cpu (s : State) : s.timerTick.cpu = s.cpu := (congrArg State.cpu s.timerTick_frame :)

@[simp] theorem State.dmaTick_cpu (s : State) : s.dmaTick.cpu = s.cpu := (congrArg State.cpu s.dmaTick_frame :)

@[simp] theorem State.ppuTick_cpu (s : State) : s.ppuTick.cpu = s.cpu := s.ppuTick_same.left

@[simp] theorem State.tCycle_cpu (s : State) : s.tCycle.cpu = s.cpu := by simp [State.tCycle]

@[simp] theorem State.tCycles_cpu (n : Nat) (s : State) : (State.tCycles n s).cpu = s.cpu := by
  induction n generalizing s with
  | zero => rfl
  | succ n ih => exact (ih s.tCycle).trans s.tCycle_cpu

@[simp] theorem State.mCycle_cpu (s : State) : s.mCycle.cpu = s.cpu := by simp [State.mCycle]

@[simp] theorem State.advance_cpu (m : Nat) (s : State) : (State.advance m s).cpu = s.cpu := by
  induction m generalizing s with
  | zero => rfl
  | succ m ih => exact (ih s.mCycle).trans s.mCycle_cpu

/-- Settles O10: each tick's frame holds the CPU, `Advance` is nothing but ticks, and a bus write reaches no CPU
register. -/
theorem ticksKeepCpu : Obligations.TicksKeepCpu :=
  ⟨fun s => ⟨s.timerTick_cpu, s.ppuTick_cpu, s.dmaTick_cpu⟩, State.advance_cpu, State.busWrite_cpu⟩

end Sys2Proof.Machine

end

section

namespace Sys2Proof.Machine

/-! ## The register file (rules R20 to R23) -/

theorem Cpu.reg_setReg (c : Cpu) (r q : Reg8) (v : Byte) : (c.setReg r v).reg q = if q = r then v else c.reg q := by
  cases r <;> cases q <;> rfl

@[simp] theorem Cpu.setReg_f (c : Cpu) (r : Reg8) (v : Byte) : (c.setReg r v).f = c.f := by cases r <;> rfl

@[simp] theorem Cpu.setReg_sp (c : Cpu) (r : Reg8) (v : Byte) : (c.setReg r v).sp = c.sp := by cases r <;> rfl

@[simp] theorem Cpu.setReg_pc (c : Cpu) (r : Reg8) (v : Byte) : (c.setReg r v).pc = c.pc := by cases r <;> rfl

theorem Word.ofBytes_toNat (hi lo : Byte) : (Word.ofBytes hi lo).toNat = hi.toNat * 256 + lo.toNat := by
  rw [BitVec.toNat_append, ← Nat.shiftLeft_add_eq_or_of_lt lo.isLt, Nat.shiftLeft_eq]

@[simp] theorem Cpu.pair_setPair (c : Cpu) (p : Pair) (v : Word) : (c.setPair p v).pair p = v := by
  cases p with
  | sp => rfl
  | bc | de | hl => exact Word.ofBytes_hi_lo v

/-! ## F as a byte (rule R22) -/

@[simp] theorem Flags.ofByte_byte (f : Flags) : Flags.ofByte f.byte = f := by
  obtain ⟨z, n, h, c⟩ := f
  revert z n h c
  decide

theorem Flags.byte_ofByte (v : Byte) : (Flags.ofByte v).byte = v &&& 0xF0 := by
  revert v
  decide +kernel

theorem Flags.byte_low (f : Flags) : f.byte &&& 0x0F = 0 := by
  rw [← f.ofByte_byte, Flags.byte_ofByte, BitVec.and_assoc]
  simp

/-- The four flags stand in bits 7 to 4 of F. -/
theorem Flags.byte_high (f : Flags) : f.byte.getLsbD 7 = f.z ∧ f.byte.getLsbD 6 = f.n ∧ f.byte.getLsbD 5 = f.h ∧
    f.byte.getLsbD 4 = f.c :=
  (Flags.mk.injEq ..).mp f.ofByte_byte

theorem Word.ofBytes_hi_lo_and (v : Word) (m : Byte) :
    Word.ofBytes (Word.hi v) (Word.lo v &&& m) = v &&& Word.ofBytes 0xFF m :=
  calc Word.ofBytes (Word.hi v) (Word.lo v &&& m)
      = Word.ofBytes (Word.hi v &&& 0xFF) (Word.lo v &&& m) := by
        rw [show (0xFF : Byte) = BitVec.allOnes 8 from rfl, BitVec.and_allOnes]
    _ = Word.ofBytes (Word.hi v) (Word.lo v) &&& Word.ofBytes 0xFF m := BitVec.and_append.symm
    _ = v &&& Word.ofBytes 0xFF m := by rw [Word.ofBytes_hi_lo]

/-- AF keeps all of a word written but bits 3 to 0. -/
theorem Cpu.af_setStackPair_af (c : Cpu) (v : Word) : (c.setStackPair .af v).af = v &&& 0xFFF0 :=
  calc (c.setStackPair .af v).af
      = Word.ofBytes (Word.hi v) (Flags.ofByte (Word.lo v)).byte := rfl
    _ = Word.ofBytes (Word.hi v) (Word.lo v &&& 0xF0) := by rw [Flags.byte_ofByte]
    _ = v &&& 0xFFF0 := Word.ofBytes_hi_lo_and v 0xF0

/-- Settles O35: the pairs are halves put together, and AF's low half is the byte of the flags. -/
theorem registerFile : Obligations.RegisterFile := by
  refine ⟨Cpu.reg_setReg, fun c r v => ⟨c.setReg_f r v, c.setReg_sp r v, c.setReg_pc r v⟩, fun c => ?_,
    Cpu.pair_setPair, Cpu.af_setStackPair_af, fun f => ?_⟩
  · exact ⟨Word.ofBytes_toNat .., Word.ofBytes_toNat .., Word.ofBytes_toNat .., Word.ofBytes_toNat ..⟩
  · obtain ⟨hz, hn, hh, hc⟩ := f.byte_high
    exact ⟨f.byte_low, hz, hn, hh, hc, f.ofByte_byte⟩

end Sys2Proof.Machine

end

section

namespace Sys2Proof.Machine

/-! ## The bus by range (rules R81 to R87) -/

theorem State.busWrite_plain (s : State) (a : Word) (v : Byte)
    (h : region a = .vram ∨ region a = .wram ∨ region a = .hram) : s.busWrite a v = s.storeByte a.toNat v := by
  rcases h with h | h | h <;> simp [State.busWrite, h]

theorem State.busRead_storeByte_other (s : State) {a b : Word} (v : Byte) (h : b ≠ a) :
    (s.storeByte a.toNat v).busRead b = s.busRead b := by
  have hmem := Memory.byteAt_insert_other s.mem v (BitVec.toNat_ne_iff_ne.mpr h)
  unfold State.busRead
  cases region b with
  | rom | cartRam | echo | unusable | io | ie => rfl
  | vram | wram | hram => exact hmem
  | oam =>
    simp only [State.storeByte_mem, hmem]
    rfl

/-- Plain memory, as ranges of addresses (rules R59, R60, R62 and R81). -/
theorem region_plain {a : Word} (h : (0x8000 ≤ a.toNat ∧ a.toNat < 0xA000) ∨ (0xC000 ≤ a.toNat ∧ a.toNat < 0xE000) ∨
    (0xFF80 ≤ a.toNat ∧ a.toNat < 0xFFFF)) : region a = .vram ∨ region a = .wram ∨ region a = .hram := by
  obtain ⟨-, hvram, -, hwram, -, -, -, -, hhram, -⟩ := region_of_range a
  obtain ⟨hlo, hhi⟩ | ⟨hlo, hhi⟩ | ⟨hlo, hhi⟩ := h
  · exact .inl (hvram hlo hhi)
  · exact .inr (.inl (hwram hlo hhi))
  · exact .inr (.inr (hhram hlo hhi))

/-- The cartridge's two ranges (rules R81 and R84). -/
theorem region_cart {a : Word} (h : a.toNat < 0x8000 ∨ (0xA000 ≤ a.toNat ∧ a.toNat < 0xC000)) :
    region a = .rom ∨ region a = .cartRam := by
  obtain ⟨hrom, -, hram, -⟩ := region_of_range a
  exact h.imp hrom fun h => hram h.1 h.2

theorem region_echo {a : Word} (hlo : 0xE000 ≤ a.toNat) (hhi : a.toNat < 0xFE00) : region a = .echo := by
  obtain ⟨-, -, -, -, h, -⟩ := region_of_range a
  exact h hlo hhi

theorem region_oam {a : Word} (hlo : 0xFE00 ≤ a.toNat) (hhi : a.toNat < 0xFEA0) : region a = .oam := by
  obtain ⟨-, -, -, -, -, h, -⟩ := region_of_range a
  exact h hlo hhi

theorem region_unusable {a : Word} (hlo : 0xFEA0 ≤ a.toNat) (hhi : a.toNat < 0xFF00) : region a = .unusable := by
  obtain ⟨-, -, -, -, -, -, h, -⟩ := region_of_range a
  exact h hlo hhi

theorem region_io {a : Word} (hlo : 0xFF00 ≤ a.toNat) (hhi : a.toNat < 0xFF80) : region a = .io := by
  obtain ⟨-, -, -, -, -, -, -, h, -⟩ := region_of_range a
  exact h hlo hhi

/-! ## OAM (rule R86) -/

theorem State.busRead_oam (s : State) {a : Word} (h : region a = .oam) :
    s.busRead a = if s.dma.state = .transfer then 0xFF else s.mem.byteAt a.toNat := by
  simp [State.busRead, State.oamBlocked, h]

theorem State.busWrite_oam (s : State) {a : Word} (v : Byte) (h : region a = .oam) :
    s.busWrite a v = if s.dma.state = .transfer then s else s.storeByte a.toNat v := by
  simp [State.busWrite, State.oamBlocked, h]

/-- Settles O19: the region is OAM, where an access asks only whether the controller is in Transfer; a store leaves the
controller alone, so the read after it is not blocked either. -/
theorem oamBlocking : Obligations.OamBlocking := by
  intro s a v hlo hhi
  have hoam := region_oam hlo hhi
  rw [s.busRead_oam hoam, s.busWrite_oam v hoam]
  constructor
  · intro ht
    exact ⟨if_pos ht, if_pos ht⟩
  · intro ht
    rw [if_neg ht, if_neg ht, State.busRead_oam _ hoam, State.storeByte_dma, if_neg ht]
    exact ⟨rfl, Memory.byteAt_insert_same ..⟩

/-! ## The other regions (rules R31, R81 to R87) -/

theorem State.busRead_cart (s : State) {a : Word} (h : region a = .rom ∨ region a = .cartRam) :
    s.busRead a = s.cart.read a := by
  rcases h with h | h <;> simp [State.busRead, h]

theorem State.busWrite_toCart (s : State) {a : Word} (v : Byte) (h : region a = .rom ∨ region a = .cartRam) :
    s.busWrite a v = { s with cart := s.cart.write a v } := by
  rcases h with h | h <;> simp [State.busWrite, h]

theorem Cart.read_romOnly_ram (rom : Memory) {a : Word} (h : 0xA000 ≤ a.toNat) : (Cart.romOnly rom).read a = 0xFF :=
  if_neg (by omega)

theorem Config.echoSentinel_cases : Config.echoSentinel = 0x00 ∨ Config.echoSentinel = 0xFF := by
  unfold Config.echoSentinel
  cases Config.echoIsFF <;> simp

theorem Config.unusableSentinel_cases : Config.unusableSentinel = 0x00 ∨ Config.unusableSentinel = 0xFF := by
  unfold Config.unusableSentinel
  cases Config.unusableIsFF <;> simp

/-- Settles O32: each range is a region, and each region's access is one lemma. -/
theorem busRegions : Obligations.BusRegions := by
  refine ⟨fun s a v h => ?plain, fun s v => ⟨rfl, rfl⟩, fun s a v hlo hhi => ?echo, fun s a v hlo hhi => ?unusable,
    Config.echoSentinel_cases, Config.unusableSentinel_cases, fun s a v h => ?cart⟩
  case plain =>
    have hplain := region_plain h
    refine ⟨s.busRead_busWrite_same a v hplain, ?_⟩
    rw [s.busWrite_plain a v hplain]
    exact ⟨fun b hb => s.busRead_storeByte_other v hb, rfl⟩
  case echo =>
    have hr := region_echo hlo hhi
    simp [State.busWrite, State.busRead, hr]
  case unusable =>
    have hr := region_unusable hlo hhi
    simp [State.busWrite, State.busRead, hr]
  case cart =>
    have hcart := region_cart h
    rw [s.busRead_cart hcart, s.busWrite_toCart v hcart]
    refine ⟨rfl, rfl, fun rom hrom => ?_⟩
    rw [hrom]
    exact ⟨congrArg (fun c => { s with cart := c }) hrom.symm, Cart.read_romOnly_ram rom⟩

end Sys2Proof.Machine

end

section

namespace Sys2Proof.Machine

/-! ## The I/O registers (rules R88 to R91) -/

theorem State.busRead_io (s : State) {a : Word} (h : region a = .io) : s.busRead a = s.ioRead a := by
  simp [State.busRead, h]

theorem State.busWrite_io (s : State) {a : Word} (v : Byte) (h : region a = .io) : s.busWrite a v = s.ioWrite a v := by
  simp [State.busWrite, h]

/-- The addresses that no rule maps (rule R91). -/
def IsUnmapped (a : Word) : Prop :=
  a = 0xFF03 ∨ (0xFF08 ≤ a.toNat ∧ a.toNat < 0xFF0F) ∨ (0xFF10 ≤ a.toNat ∧ a.toNat < 0xFF40) ∨
    (0xFF4C ≤ a.toNat ∧ a.toNat < 0xFF80)

theorem IsUnmapped.region_eq {a : Word} (h : IsUnmapped a) : region a = .io := by
  rcases h with rfl | h | h | h
  · rfl
  all_goals exact region_io (by omega) (by omega)

theorem IsUnmapped.ioReg_eq {a : Word} (h : IsUnmapped a) : ioReg a = .unmapped := by
  rcases h with rfl | h | h | h
  · rfl
  all_goals simp (disch := omega) only [ioReg, if_pos, if_neg]

/-- A port of `EXT`: what is written is recorded, what is read is the oracle's next answer (rule R90). -/
theorem State.busAccess_ext (s : State) {a : Word} (v : Byte) (hr : region a = .io) (ha : ioReg a = .ext) :
    s.busWrite a v = { s with extWrites := s.extWrites ++ [(a, v)] } ∧ s.busRead a = Config.extRead s.extReads a := by
  simp [s.busWrite_io v hr, s.busRead_io hr, State.ioWrite, State.ioRead, ha]

/-- An unmapped address: what is written is recorded, what is read is a free value of the address (rule R91). -/
theorem State.busAccess_unmapped (s : State) {a : Word} (v : Byte) (h : IsUnmapped a) :
    s.busWrite a v = { s with extWrites := s.extWrites ++ [(a, v)] } ∧ s.busRead a = Config.ioUnmappedRead a := by
  simp [s.busWrite_io v h.region_eq, s.busRead_io h.region_eq, State.ioWrite, State.ioRead, h.ioReg_eq]

/-- Bits 7 to 3 of TAC read as 1. -/
theorem tacByte_eq (v : Byte) : (0xF8 : Byte) ||| (v.extractLsb' 0 3).zeroExtend 8 = v ||| 0xF8 := by
  revert v
  decide +kernel

/-- Bits 7 to 5 of IF read as 1. -/
theorem ifByte_eq (v : Byte) : (0xE0 : Byte) ||| (v.extractLsb' 0 5).zeroExtend 8 = v ||| 0xE0 := by
  revert v
  decide +kernel

/-- A write to STAT changes bits 6 to 3 of what it reads. -/
theorem Ppu.statByte_setSel (p : Ppu) (v : Byte) : { p with statSel := v.extractLsb' 3 4 }.statByte =
    (0x80 ||| v &&& 0x78 ||| p.statByte &&& 0x07) := by
  apply BitVec.eq_of_getLsbD_eq
  intro i hi
  simp only [Ppu.statByte, BitVec.getLsbD_or, BitVec.getLsbD_and, BitVec.getLsbD_append, BitVec.getLsbD_extractLsb']
  interval_cases i <;> simp

/-- Settles O33: each mapped address is one entry of the two tables, read back at once; TAC, IF and STAT keep some of
the bits written. -/
theorem ioReadBack : Obligations.IoReadBack := by
  intro s v
  refine ⟨(by decide : Word.hi 0 = 0), rfl, rfl, rfl, tacByte_eq v, ifByte_eq v, rfl, s.ppu.statByte_setSel v,
    rfl, rfl, rfl, rfl, rfl, rfl, rfl, rfl, rfl, rfl, rfl, ?ext, fun a => s.busAccess_unmapped v⟩
  case ext =>
    rintro a (rfl | rfl | rfl) <;> exact s.busAccess_ext v rfl rfl

end Sys2Proof.Machine

end

section

namespace Sys2Proof.Machine

/-! ## What an instruction stores to (rules R200 to R377) -/

/-- `t` is `s` after stores to `as` at most: storage and the device registers at other addresses are as before. -/
structure State.StoresWithin (as : List Word) (s t : State) : Prop where
  mem : ∀ n : Nat, (∀ a ∈ as, a.toNat ≠ n) → t.mem.byteAt n = s.mem.byteAt n
  cart : (∀ a ∈ as, 0x8000 ≤ a.toNat ∧ (a.toNat < 0xA000 ∨ 0xC000 ≤ a.toNat)) → t.cart = s.cart
  enable : (∀ a ∈ as, a ≠ 0xFFFF) → t.irq.enable = s.irq.enable
  devices : (∀ a ∈ as, a.toNat < 0xFF00 ∨ 0xFF80 ≤ a.toNat) →
    t.timer = s.timer ∧ t.dma = s.dma ∧ t.ppu = s.ppu ∧ t.irq.req = s.irq.req ∧ t.extWrites = s.extWrites

namespace State.StoresWithin

variable {s t u : State} {as bs : List Word}

/-- Work on the CPU, on the cost and on the count of the oracle's answers stores to no address. -/
theorem of_cpu (s : State) (c : Cpu) (m r : Nat) :
    State.StoresWithin [] s { s with cpu := c, mcycles := m, extReads := r } :=
  ⟨fun _ _ => rfl, fun _ => rfl, fun _ => rfl, fun _ => ⟨rfl, rfl, rfl, rfl, rfl⟩⟩

theorem trans (hst : State.StoresWithin as s t) (htu : State.StoresWithin bs t u) :
    State.StoresWithin (as ++ bs) s u where
  mem n h :=
    have ⟨has, hbs⟩ := List.forall_mem_append.mp h
    (htu.mem n hbs).trans (hst.mem n has)
  cart h :=
    have ⟨has, hbs⟩ := List.forall_mem_append.mp h
    (htu.cart hbs).trans (hst.cart has)
  enable h :=
    have ⟨has, hbs⟩ := List.forall_mem_append.mp h
    (htu.enable hbs).trans (hst.enable has)
  devices h := by
    obtain ⟨has, hbs⟩ := List.forall_mem_append.mp h
    obtain ⟨ht, hd, hp, hi, he⟩ := hst.devices has
    rw [← ht, ← hd, ← hp, ← hi, ← he]
    exact htu.devices hbs

/-- CPU work after the stores. -/
theorem then_cpu (hst : State.StoresWithin as s t) (c : Cpu) (m r : Nat) :
    State.StoresWithin as s { t with cpu := c, mcycles := m, extReads := r } := by
  simpa using hst.trans (of_cpu t c m r)

theorem then_setPc (hst : State.StoresWithin as s t) (a : Word) : State.StoresWithin as s (t.setPc a) := hst.then_cpu ..

end State.StoresWithin

/-- A bus write stores to its address. -/
theorem State.storesWithin_busWrite (s : State) (a : Word) (v : Byte) : State.StoresWithin [a] s (s.busWrite a v) := by
  have hr := region_spec a
  refine ⟨fun n h => ?_, fun h => ?_, fun h => ?_, fun h => ?_⟩ <;> rw [List.forall_mem_singleton] at h
  · exact s.busWrite_byteAt_other a v h.symm
  · rw [s.busWrite_cart, if_neg]
    rintro (hrom | hram)
    · simp [hrom] at hr; omega
    · simp [hram] at hr; omega
  · rw [s.busWrite_enable, if_neg]
    intro hie
    simp [hie] at hr
    exact h (BitVec.eq_of_toNat_eq (by simpa using hr))
  · refine s.busWrite_devices a v fun hio => ?_
    simp [hio] at hr
    omega

/-- A read, then a write. -/
theorem State.storesWithin_noteRead_busWrite (s : State) (a b : Word) (v : Byte) :
    State.StoresWithin [b] s ((s.noteRead a).busWrite b v) :=
  (State.StoresWithin.of_cpu ..).trans (State.storesWithin_busWrite (s.noteRead a) b v)

theorem State.storesWithin_push16 (s : State) (v : Word) : State.StoresWithin (pushAddrs s) s (s.push16 v) := by
  rw [State.push16_eq]
  exact ((s.storesWithin_busWrite ..).trans (State.storesWithin_busWrite ..)).then_cpu ..

theorem State.storesWithin_pop16 (s : State) : State.StoresWithin [] s s.pop16.2 := by
  rw [State.pop16_snd]
  exact .of_cpu ..

theorem State.storesWithin_returnPop (s : State) : State.StoresWithin [] s s.returnPop :=
  s.storesWithin_pop16.then_cpu ..

theorem State.storesWithin_returnFromInterrupt (s : State) : State.StoresWithin [] s s.returnFromInterrupt :=
  s.storesWithin_returnPop.then_cpu ..

/-- An operand read and written in place. -/
theorem State.storesWithin_writeLoc (s : State) (o : Loc8) (v : Byte) :
    State.StoresWithin (locAddrs o s) s ((s.noteLoc o).writeLoc o v) := by
  cases o with
  | reg r => exact .of_cpu ..
  | mem => exact s.storesWithin_noteRead_busWrite ..

/-- The operation of every shape stores to `storeAddrs` at most. -/
theorem shapeRun_storesWithin (sh : Shape) (s : State) : State.StoresWithin (storeAddrs sh s) s (shapeRun sh s) := by
  cases sh with
  | nop | halt | stop | di | ei | illegal _ | ldRegReg _ _ | ldRegImm _ _ | ldRegHl _ | ldAInd _ | ldAHlStep _
  | ldAAbs _ | ldhA _ | ldAHighC | ldPairImm _ _ | ldSpHl | ldHlSpE8 _ | incReg _ | decReg _ | daa | cpl | scf | ccf
  | addHl _ | incPair _ | decPair _ | addSp _ | rotA _ | jp _ | jpHl | jr _ =>
    exact .of_cpu ..
  | alu _ o => cases o <;> exact .of_cpu ..
  | bit _ o => cases o <;> exact .of_cpu ..
  | jpCond _ _ | jrCond _ _ =>
    simp only [shapeRun, opJpCond, opJrCond]
    split <;> exact .of_cpu ..
  | ldHlReg _ | ldHlImm _ | ldHlStepA _ | ldIndA _ | ldAbsA _ | ldhStoreA _ | ldHighCA =>
    exact (s.storesWithin_busWrite ..).then_cpu ..
  | incMem | decMem => exact (s.storesWithin_noteRead_busWrite ..).then_cpu ..
  | ldAbsSp _ => exact ((s.storesWithin_busWrite ..).trans (State.storesWithin_busWrite ..)).then_cpu ..
  | rot _ o | res _ o | setBit _ o => exact (s.storesWithin_writeLoc o _).then_cpu ..
  | push _ => exact (s.storesWithin_push16 _).then_cpu ..
  | call _ | rst _ => exact ((s.storesWithin_push16 s.cpu.pc).then_setPc _).then_cpu ..
  | pop _ => exact s.storesWithin_pop16.then_cpu ..
  | ret => exact s.storesWithin_returnPop.then_cpu ..
  | reti => exact s.storesWithin_returnFromInterrupt.then_cpu ..
  | retCond _ =>
    simp only [shapeRun, opRetCond]
    split
    · exact s.storesWithin_returnPop.then_cpu ..
    · exact .of_cpu ..
  | callCond _ _ =>
    simp only [shapeRun, opCallCond, storeAddrs]
    split
    · exact ((s.storesWithin_push16 s.cpu.pc).then_setPc _).then_cpu ..
    · exact .of_cpu ..

/-- Settles O58: an instruction is its shape's operation, and each operation's stores are bus writes at `storeAddrs`. -/
theorem frameMemory : Obligations.FrameMemory := by
  intro i s t h
  rw [exec_eq] at h
  cases h
  obtain ⟨hmem, hcart, henable, hdevices⟩ := shapeRun_storesWithin i.shape s
  exact ⟨hmem, hcart, henable, hdevices⟩

end Sys2Proof.Machine

end

section

namespace Sys2Proof.Machine

/-! ## The opcode maps against the field patterns (rules R130 to R142) -/

theorem opLength_bounds (op : Byte) : 1 ≤ opLength op ∧ opLength op ≤ 3 := by
  unfold opLength
  split
  · omega
  · split <;> omega

/-- What `decode` answers: the instruction of the bytes at hand, and the bytes from its length on. -/
theorem decode_cons_eq_ok_iff (op : Byte) (tail rest : List Byte) (i : Instr) :
    decode (op :: tail) = .ok (i, rest) ↔ opLength op - 1 ≤ tail.length ∧
      decodeBytes op (tail.getD 0 0) (tail.getD 1 0) = i ∧ tail.drop (opLength op - 1) = rest := by
  rw [decode]
  split
  next hshort => simp [show ¬ opLength op - 1 ≤ tail.length by omega]
  next hlong => simp [show opLength op - 1 ≤ tail.length by omega]

theorem encode_decodeCb (op : Byte) : encode (decodeCb op) = [0xCB, op] := by
  revert op
  decide +kernel

/-- Every entry of the base map against its field pattern. The bytes after the opcode are taken as the halves of a word,
into which a 16-bit operand is encoded again. -/
theorem encode_decodeBytes (op b1 b2 : Byte) (hstop : op ≠ 0x10) :
    encode (decodeBytes op b1 b2) = op :: [b1, b2].take (opLength op - 1) := by
  obtain ⟨w, rfl, rfl⟩ : ∃ w, b1 = Word.lo w ∧ b2 = Word.hi w :=
    ⟨Word.ofBytes b2 b1, (Word.lo_ofBytes b2 b1).symm, (Word.hi_ofBytes b2 b1).symm⟩
  rw [decodeBytes, Word.ofBytes_hi_lo]
  obtain ⟨k, hk⟩ := op
  interval_cases k
  -- goals are counted from 1: number 204 is opcode 0xCB, number 17 is STOP
  on_goal 204 => exact encode_decodeCb _
  on_goal 17 => exact absurd rfl hstop
  all_goals exact rfl

theorem length_encode_decodeBytes (op b1 b2 : Byte) : (encode (decodeBytes op b1 b2)).length = opLength op := by
  by_cases hstop : op = 0x10
  · subst hstop
    rfl
  · have ⟨hpos, hle⟩ := opLength_bounds op
    rw [encode_decodeBytes op b1 b2 hstop]
    simp only [List.length_cons, List.length_take, List.length_nil]
    omega

/-- Every instruction is in the maps, where its encoding says: an opcode and an 8-bit operand stand in the encoding, a
16-bit operand is put together from its halves. -/
theorem encode_eq_cons (i : Instr) : ∃ op args, encode i = op :: args ∧
    ∀ rest, decodeBytes op ((args ++ rest).getD 0 0) ((args ++ rest).getD 1 0) = i := by
  cases i with
  | ldBcD16 v | ldMemA16Sp v | ldDeD16 v | ldHlD16 v | ldSpD16 v | jpNzA16 v | jpA16 v | callNzA16 v | jpZA16 v
  | callZA16 v | callA16 v | jpNcA16 v | callNcA16 v | jpCA16 v | callCA16 v | ldMemA16A v | ldAMemA16 v =>
    exact ⟨_, _, rfl, fun _ => congrArg _ (Word.ofBytes_hi_lo v)⟩
  | _ => exact ⟨_, _, rfl, fun _ => rfl⟩

/-- Settles O2: the instruction is in the maps where its encoding says, and the encoding has the length its opcode
tells. -/
theorem decodeEncode : Obligations.DecodeEncode := by
  intro i rest
  obtain ⟨op, args, henc, hdec⟩ := encode_eq_cons i
  have hlen : args.length + 1 = opLength op := by
    rw [← length_encode_decodeBytes op, hdec rest, henc, List.length_cons]
  have hargs : opLength op - 1 = args.length := by omega
  rw [henc, List.cons_append, decode_cons_eq_ok_iff, hargs]
  exact ⟨by simp, hdec rest, List.drop_left⟩

/-- The bytes `decode` looks at are the ones that follow the opcode. -/
theorem take_getD_getD (tail : List Byte) {n : Nat} (hn : n ≤ 2) (hlen : n ≤ tail.length) :
    [tail.getD 0 0, tail.getD 1 0].take n = tail.take n := by
  match n, tail with
  | 0, _ => rfl
  | 1, _ :: _ => rfl
  | 2, _ :: _ :: _ => rfl

/-- Settles O3: the bytes are the opcode, as many operand bytes as its length tells, and the rest. -/
theorem encodeDecode : Obligations.EncodeDecode := by
  intro bytes rest i hdecode hne
  cases bytes with
  | nil => cases hdecode
  | cons op tail =>
    obtain ⟨hlen, rfl, rfl⟩ := (decode_cons_eq_ok_iff ..).mp hdecode
    have hstop : op ≠ 0x10 := by
      rintro rfl
      exact hne rfl
    have ⟨_, hle⟩ := opLength_bounds op
    rw [encode_decodeBytes op _ _ hstop, take_getD_getD tail (by omega) hlen, List.cons_append, List.take_append_drop]

/-- The eleven undefined opcodes (rule R142). -/
def undefinedOpcodes : List Byte := [0xD3, 0xDB, 0xDD, 0xE3, 0xE4, 0xEB, 0xEC, 0xED, 0xF4, 0xFC, 0xFD]

theorem encode_of_not_wellFormed {i : Instr} (h : i.wellFormed = false) :
    ∃ op ∈ undefinedOpcodes, encode i = [op] := by
  unfold Instr.wellFormed at h
  split at h
  case h_12 => cases h
  all_goals exact ⟨_, by decide, rfl⟩

/-- Forward, the opcode is read off the encoding; backward, each of the eleven is looked up. -/
theorem wellFormed_decodeBytes_eq_false_iff (op b1 b2 : Byte) :
    (decodeBytes op b1 b2).wellFormed = false ↔ op ∈ undefinedOpcodes := by
  constructor
  · intro h
    have hstop : op ≠ 0x10 := by
      rintro rfl
      cases h
    obtain ⟨undef, hmem, henc⟩ := encode_of_not_wellFormed h
    rw [encode_decodeBytes op b1 b2 hstop] at henc
    exact (List.cons.inj henc).left ▸ hmem
  · intro h
    fin_cases h <;> rfl

/-- Settles O4: three bytes are as many as any opcode asks for. -/
theorem decodeTotal : Obligations.DecodeTotal := by
  intro b0 b1 b2 rest
  have ⟨_, hle⟩ := opLength_bounds b0
  have hlen : opLength b0 - 1 ≤ (b1 :: b2 :: rest).length := by
    simp only [List.length_cons]
    omega
  exact ⟨decodeBytes b0 b1 b2, (decode_cons_eq_ok_iff ..).mpr ⟨hlen, rfl, rfl⟩,
    wellFormed_decodeBytes_eq_false_iff b0 b1 b2⟩

/-- Settles O1: the decoder evaluates on each word. -/
theorem decodeWords : Obligations.DecodeWords :=
  ⟨rfl, rfl, rfl, rfl, rfl, rfl, rfl, rfl, rfl, rfl, rfl, rfl⟩

end Sys2Proof.Machine

end

section

namespace Sys2Proof.Machine

/-! ## 8-bit loads and stores (rules R200 to R218) -/

/-- An instruction is its shape: the encoding and the meaning are both read off it. -/
theorem encode_exec_of_shape {i : Instr} {sh : Shape} (h : i.shape = sh) (s : State) :
    encode i = sh.encode ∧ exec i s = .next (shapeRun sh s) :=
  ⟨congrArg Shape.encode h, exec_of_shape h s⟩

/-- A load takes the byte the bus gives, and counts the oracle's answers (rule R82; log entry 6). -/
theorem State.loadReg_cost (s : State) (dst : Reg8) (a : Word) (n : Nat) : (s.loadReg dst a).cost n = { s with
    cpu := s.cpu.setReg dst (s.busRead a), extReads := s.extReads + extAnswers a, mcycles := n } := rfl

theorem State.busWrite_cost (s : State) (a : Word) (v : Byte) (n : Nat) :
    (s.busWrite a v).cost n = { s.busWrite a v with mcycles := n } := rfl

/-- HL steps from its value before the load, in the CPU that already holds the loaded register. -/
theorem State.loadReg_stepHl_cost (s : State) (dst : Reg8) (st : HlStep) (a : Word) (n : Nat) :
    ((s.loadReg dst a).stepHl st a).cost n = { s with
      cpu := (s.cpu.setReg dst (s.busRead a)).setHl (hlStepped st a)
      extReads := s.extReads + extAnswers a, mcycles := n } := rfl

/-- A store reaches no CPU register, so HL steps in the CPU from before it. -/
theorem State.busWrite_stepHl_cost (s : State) (st : HlStep) (a : Word) (v : Byte) (n : Nat) :
    ((s.busWrite a v).stepHl st a).cost n =
      { s.busWrite a v with cpu := s.cpu.setHl (hlStepped st a), mcycles := n } := by
  rw [State.stepHl, State.busWrite_cpu]
  rfl

/-- Settles O36: both forms write one register; the operand fields of the opcode are the registers' codes. -/
theorem loadRegister : Obligations.LoadRegister :=
  ⟨fun _ s _ _ h => encode_exec_of_shape h s, fun _ s _ _ h => encode_exec_of_shape h s⟩

/-- Settles O37: each of the six forms is `loadReg` at its own address and cost. -/
theorem loadFromMemory : Obligations.LoadFromMemory := by
  intro i s dst a n bytes h
  rw [← State.loadReg_cost]
  obtain ⟨h, rfl, rfl, rfl⟩ | ⟨h, rfl, rfl, rfl, rfl⟩ | ⟨h, rfl, rfl, rfl, rfl⟩ | ⟨h, rfl, rfl, rfl⟩ |
    ⟨e, h, rfl, rfl, rfl, rfl⟩ | ⟨h, rfl, rfl, rfl, rfl⟩ := h
  all_goals exact encode_exec_of_shape h s

/-- Settles O38: each of the seven forms is `busWrite` of its byte at its own address and cost. -/
theorem storeToMemory : Obligations.StoreToMemory := by
  intro i s a v n bytes h
  rw [← State.busWrite_cost]
  obtain ⟨r, h, rfl, rfl, rfl, rfl⟩ | ⟨h, rfl, rfl, rfl⟩ | ⟨h, rfl, rfl, rfl, rfl⟩ | ⟨h, rfl, rfl, rfl, rfl⟩ |
    ⟨h, rfl, rfl, rfl⟩ | ⟨e, h, rfl, rfl, rfl, rfl⟩ | ⟨h, rfl, rfl, rfl, rfl⟩ := h
  all_goals exact encode_exec_of_shape h s

/-- Settles O39: the access and then HL's step, which reads HL before the access; the step's direction is bit 4 of the
opcode. -/
theorem loadStoreStepHl : Obligations.LoadStoreStepHl := by
  intro i s st
  refine ⟨fun h => ?_, fun h => ?_⟩
  · obtain ⟨henc, hexec⟩ := encode_exec_of_shape h s
    rw [henc, hexec, shapeRun, opLdAHlStep, State.loadReg_stepHl_cost]
    cases st <;> exact ⟨rfl, rfl⟩
  · obtain ⟨henc, hexec⟩ := encode_exec_of_shape h s
    rw [henc, hexec, shapeRun, opLdHlStepA, State.busWrite_stepHl_cost]
    cases st <;> exact ⟨rfl, rfl⟩

end Sys2Proof.Machine

end

section

namespace Sys2Proof.Machine

/-! ## Push and pop as one update of the state (rules R238 and R239) -/

theorem State.push16_eq_sub_two (s : State) (v : Word) : s.push16 v =
    { (s.busWrite (s.cpu.sp - 1) (Word.hi v)).busWrite (s.cpu.sp - 2) (Word.lo v) with
      cpu := { s.cpu with sp := s.cpu.sp - 2 } } := by
  simp only [State.push16_eq, word_sub_one_one, State.setSp, State.busWrite_cpu]

theorem State.pop16_eq (s : State) : s.pop16 =
    (Word.ofBytes ((s.noteRead s.cpu.sp).busRead (s.cpu.sp + 1)) (s.busRead s.cpu.sp),
     { s with
       cpu := { s.cpu with sp := s.cpu.sp + 2 }
       extReads := s.extReads + extAnswers s.cpu.sp + extAnswers (s.cpu.sp + 1) }) := by
  refine Prod.ext s.pop16_value ?_
  rw [State.pop16_snd, word_add_one_one]
  rfl

/-! ## A pop after a push to plain RAM -/

/-- Plain memory is no port of `EXT`, so a read before does not change what it gives. -/
theorem State.busRead_noteRead_plain (s : State) (b : Word) {a : Word}
    (h : region a = .vram ∨ region a = .wram ∨ region a = .hram) : (s.noteRead b).busRead a = s.busRead a := by
  rw [State.busRead_plain _ a h, State.busRead_plain _ a h, State.noteRead_mem]

/-- SP goes two down and two up, in any region. -/
theorem State.pop16_push16_cpu (s : State) (v : Word) : (s.push16 v).pop16.2.cpu = s.cpu := by
  rw [State.pop16_cpu, State.push16_cpu]
  simp only [BitVec.sub_add_cancel]

section

variable {s : State} (v : Word)
  (hlo : region (s.cpu.sp - 2) = .vram ∨ region (s.cpu.sp - 2) = .wram ∨ region (s.cpu.sp - 2) = .hram)
  (hhi : region (s.cpu.sp - 1) = .vram ∨ region (s.cpu.sp - 1) = .wram ∨ region (s.cpu.sp - 1) = .hram)

include hlo

/-- The byte pushed last stands at the new SP. -/
theorem State.busRead_push16_low : (s.push16 v).busRead (s.cpu.sp - 2) = Word.lo v := by
  rw [State.push16_eq_sub_two, State.busRead_setCpu, State.busRead_busWrite_same _ _ _ hlo]

include hhi

/-- The byte pushed first is not overwritten by the second. -/
theorem State.busRead_push16_high : (s.push16 v).busRead (s.cpu.sp - 1) = Word.hi v := by
  have hne : s.cpu.sp - 1 ≠ s.cpu.sp - 2 := by bv_omega
  rw [State.push16_eq_sub_two, State.busRead_setCpu, State.busWrite_plain _ _ _ hlo,
    State.busRead_storeByte_other _ _ hne, State.busRead_busWrite_same _ _ _ hhi]

theorem State.pop16_push16_value : (s.push16 v).pop16.1 = v := by
  have hsp : (s.push16 v).cpu.sp = s.cpu.sp - 2 := by rw [State.push16_eq_sub_two]
  have hnext : s.cpu.sp - 2 + 1 = s.cpu.sp - 1 := by bv_omega
  rw [State.pop16_value, hsp, hnext, State.busRead_noteRead_plain _ _ hhi, State.busRead_push16_high v hlo hhi,
    State.busRead_push16_low v hlo, Word.ofBytes_hi_lo]

end

/-- Settles O34: both operations as one update, and in plain RAM the pop's reads meet the push's two bytes. -/
theorem stackPushPop : Obligations.StackPushPop :=
  ⟨State.push16_eq_sub_two, State.pop16_eq, fun s v h =>
    ⟨State.pop16_push16_value v (region_plain (h _ (.inr rfl))) (region_plain (h _ (.inl rfl))),
      s.pop16_push16_cpu v⟩⟩

/-! ## 16-bit loads (rules R230, R232 and R233) -/

/-- Settles O40: each form is its shape's one operation; the pair field of the opcode is the pair's code. -/
theorem loadPair : Obligations.LoadPair := by
  refine ⟨fun i s p v h => ?_, fun i s h => encode_exec_of_shape h s, fun i s a h => encode_exec_of_shape h s⟩
  have henc_exec := encode_exec_of_shape h s
  cases p <;> exact henc_exec

/-! ## PUSH and POP (rules R235 to R237) -/

theorem opPop_eq (p : StackPair) (s : State) : opPop p s = { s with
    cpu := { s.cpu with sp := s.cpu.sp + 2 }.setStackPair p
      (Word.ofBytes ((s.noteRead s.cpu.sp).busRead (s.cpu.sp + 1)) (s.busRead s.cpu.sp))
    extReads := s.extReads + extAnswers s.cpu.sp + extAnswers (s.cpu.sp + 1), mcycles := 3 } := by
  rw [opPop, State.pop16_eq, State.cost]

/-- Settles O41: PUSH is `push16` of the pair, POP writes the halves of what `pop16` gives to the pair's registers. -/
theorem pushPop : Obligations.PushPop := by
  refine ⟨fun i s p h => ?push, fun i s p h => ?pop⟩ <;> obtain ⟨henc, hexec⟩ := encode_exec_of_shape h s
  case push => cases p <;> exact ⟨henc, hexec⟩
  case pop =>
    refine ⟨by cases p <;> exact henc, ?_⟩
    rw [hexec, shapeRun, opPop_eq]
    cases p with
    | bc | de | hl => simp only [Cpu.setStackPair, Cpu.setHl, Word.hi_ofBytes, Word.lo_ofBytes]
    | af => simp only [Cpu.setStackPair, Flags.ofByte, Word.hi_ofBytes, Word.lo_ofBytes]

/-! ## SP plus a signed byte (rules R234 and R293) -/

/-- Settles O42: both forms put `addSpSigned`, on numbers, in their destination. -/
theorem spPlusSigned : Obligations.SpPlusSigned := by
  intro i s e
  refine ⟨fun h => ?_, fun h => ?_⟩
  · have henc_exec := encode_exec_of_shape h s
    rw [shapeRun, opLdHlSpE8, addSpSigned_eq] at henc_exec
    exact henc_exec
  · have henc_exec := encode_exec_of_shape h s
    rw [shapeRun, opAddSp, addSpSigned_eq] at henc_exec
    exact henc_exec

end Sys2Proof.Machine

end

section

namespace Sys2Proof.Machine

/-! ## The accumulator operations (rules R249 to R257) -/

theorem Shape.encode_alu (op : AluOp) (b : Src8) : (Shape.alu op b).encode = aluBytes op b := by
  cases b <;> rfl

/-- Every operand form: A and F take what `alu` answers, and a read of `(HL)` counts the oracle's answers. -/
theorem opAlu_eq (op : AluOp) (b : Src8) (s : State) : opAlu op b s = { s with
    cpu := { s.cpu with
      a := (alu op s.cpu.a (s.readSrc b) s.cpu.f).1, f := (alu op s.cpu.a (s.readSrc b) s.cpu.f).2 }
    extReads := s.extReads + srcAnswers s b, mcycles := aluCost b } := by
  cases b <;> rfl

/-- The encoding and the meaning of an ALU instruction, once `alu` is known on its operands. -/
theorem encode_exec_of_alu {i : Instr} {op : AluOp} {b : Src8} (h : i.shape = .alu op b) (s : State) {r : Byte}
    {f : Flags} (halu : alu op s.cpu.a (s.readSrc b) s.cpu.f = (r, f)) :
    encode i = aluBytes op b ∧ exec i s = .next { s with
      cpu := { s.cpu with a := r, f := f }, extReads := s.extReads + srcAnswers s b, mcycles := aluCost b } := by
  obtain ⟨henc, hexec⟩ := encode_exec_of_shape h s
  rw [henc, hexec, Shape.encode_alu, shapeRun, opAlu_eq, halu]
  exact ⟨rfl, rfl⟩

/-- A carry in that only one operation takes, as a number. -/
theorem toNat_decide_and (p : Prop) [Decidable p] (c : Bool) :
    (decide p && c).toNat = if p ∧ c = true then 1 else 0 := by
  by_cases p <;> cases c <;> simp [*]

theorem alu_add_or_adc {op : AluOp} (hop : op = .add ∨ op = .adc) (a b : Byte) (f : Flags) :
    alu op a b f = addWith a b (decide (op = .adc) && f.c) := by
  obtain rfl | rfl := hop <;> rfl

theorem alu_sub_or_sbc {op : AluOp} (hop : op = .sub ∨ op = .sbc) (a b : Byte) (f : Flags) :
    alu op a b f = subWith a b (decide (op = .sbc) && f.c) := by
  obtain rfl | rfl := hop <;> rfl

/-- Settles O43: `addWith` on numbers, with flag C as the carry in for ADC. -/
theorem addAdc : Obligations.AddAdc := by
  intro i s op b h hop
  refine encode_exec_of_alu h s ?_
  rw [alu_add_or_adc hop, addWith_eq, toNat_decide_and]

/-- Settles O44: `subWith` on numbers, with flag C as the borrow in for SBC; CP takes the flags only. -/
theorem subSbcCp : Obligations.SubSbcCp := by
  intro i s op b h hop
  refine encode_exec_of_alu h s ?_
  obtain hop | rfl : (op = .sub ∨ op = .sbc) ∨ op = .cp := by rwa [or_assoc]
  · have hne : op ≠ .cp := by
      obtain rfl | rfl := hop <;> decide
    rw [if_neg hne, alu_sub_or_sbc hop, subWith_eq, toNat_decide_and]
  · rw [alu, subWith_eq]
    rfl

/-- Settles O45: `BitVec`'s own operations, bit by bit. -/
theorem logicBitwise : Obligations.Logic := by
  rintro i s op b h (rfl | rfl | rfl)
  · exact ⟨_, fun k _ => BitVec.getLsbD_and .., encode_exec_of_alu h s rfl⟩
  · exact ⟨_, fun k _ => BitVec.getLsbD_xor .., encode_exec_of_alu h s rfl⟩
  · exact ⟨_, fun k _ => BitVec.getLsbD_or .., encode_exec_of_alu h s rfl⟩

/-! ## INC and DEC (rules R260 to R263) -/

/-- One read, one write, then the flags: HL is read before the write, which reaches no CPU register. -/
theorem State.modifyHl_cost (s : State) (v : Byte) (f : Flags) (n : Nat) : (s.modifyHl (v, f)).cost n =
    { s.busWrite s.cpu.hl v with
      cpu := { s.cpu with f := f }, extReads := s.extReads + extAnswers s.cpu.hl, mcycles := n } := by
  rw [State.modifyHl, State.busWrite_noteRead, State.noteRead, State.cost, State.busWrite_cpu, State.busWrite_extReads]

/-- Settles O46: `inc8` and `dec8` on numbers, put in a register or written back at HL. -/
theorem incDec : Obligations.IncDec := by
  refine ⟨fun i s r h => ?_, fun i s r h => ?_, fun i s h => ?_, fun i s h => ?_⟩ <;>
    have henc_exec := encode_exec_of_shape h s
  · rw [shapeRun, opIncReg, inc8_eq] at henc_exec
    exact henc_exec
  · rw [shapeRun, opDecReg, dec8_eq] at henc_exec
    exact henc_exec
  · rw [shapeRun, opIncMem, inc8_eq, State.modifyHl_cost] at henc_exec
    exact henc_exec
  · rw [shapeRun, opDecMem, dec8_eq, State.modifyHl_cost] at henc_exec
    exact henc_exec

/-! ## DAA, CPL, SCF and CCF (rules R264 to R267) -/

theorem daaCorrection_eq (a : Byte) (f : Flags) : daaCorrection a f =
    (decide (f.h = true ∨ f.n = false ∧ 9 < a.toNat % 16), decide (f.c = true ∨ f.n = false ∧ 0x99 < a.toNat)) := by
  have hlow : (a &&& 0x0F).toNat = a.toNat % 16 := Nat.and_two_pow_sub_one_eq_mod a.toNat 4
  rw [daaCorrection, hlow]
  cases f.n <;> simp

/-- The two parts of the correction share no bit. -/
theorem daaCorrection_or (p q : Prop) [Decidable p] [Decidable q] :
    ((if p then 0x06 else 0x00 : Byte) ||| (if q then 0x60 else 0x00)) =
      BitVec.ofNat 8 ((if p then 6 else 0) + (if q then 0x60 else 0)) := by
  by_cases p <;> by_cases q <;> simp [*]

/-- The corrected A: added to, or with N subtracted from, modulo 256. -/
theorem addOrSub_ofNat (a : Byte) (n : Bool) {k : Nat} (hk : k < 256) :
    (if n = true then a - BitVec.ofNat 8 k else a + BitVec.ofNat 8 k) =
      BitVec.ofNat 8 (if n = true then (a.toNat + 256 - k) % 256 else (a.toNat + k) % 256) := by
  apply BitVec.eq_of_toNat_eq
  cases n with
  | false => simp
  | true =>
    simp only [if_true, BitVec.toNat_sub, BitVec.toNat_ofNat]
    omega

/-- `DAA` on numbers. -/
theorem daa_eq (a : Byte) (f : Flags) :
    let lowDigit := f.h = true ∨ f.n = false ∧ 9 < a.toNat % 16
    let highDigit := f.c = true ∨ f.n = false ∧ 0x99 < a.toNat
    let corr := (if lowDigit then 6 else 0) + (if highDigit then 0x60 else 0)
    let r := if f.n = true then (a.toNat + 256 - corr) % 256 else (a.toNat + corr) % 256
    daa a f = (BitVec.ofNat 8 r, { z := decide (r = 0), n := f.n, h := false, c := decide highDigit }) := by
  intro lowDigit highDigit corr r
  have hcorr : corr < 256 := by
    simp only [corr]
    split <;> split <;> omega
  have hr : r < 256 := by
    simp only [r]
    split <;> omega
  have hz : BitVec.ofNat 8 r = 0 ↔ r = 0 := by
    rw [← BitVec.toNat_inj, BitVec.toNat_ofNat, Nat.mod_eq_of_lt hr]
    rfl
  simp only [daa, daaCorrection_eq, decide_eq_true_eq, daaCorrection_or]
  rw [show (if f.n = true then _ else _) = BitVec.ofNat 8 r from addOrSub_ofNat a f.n hcorr]
  simp only [hz, highDigit]

theorem not_toNat_eq (a : Byte) : ~~~a = BitVec.ofNat 8 (255 - a.toNat) := by
  apply BitVec.eq_of_toNat_eq
  rw [BitVec.toNat_not, BitVec.toNat_ofNat]
  omega

/-- Settles O47: `daa` on numbers; the other three are their flag rules, and CPL's complement is 255 less A. -/
theorem daaCplScfCcf : Obligations.DaaCplScfCcf := by
  refine ⟨fun i s h => ?daa, fun i s h => ?cpl, fun i s h => encode_exec_of_shape h s,
    fun i s h => encode_exec_of_shape h s⟩
  case daa =>
    have henc_exec := encode_exec_of_shape h s
    rw [shapeRun, opDaa, daa_eq] at henc_exec
    exact henc_exec
  case cpl =>
    have henc_exec := encode_exec_of_shape h s
    rw [shapeRun, opCpl, not_toNat_eq] at henc_exec
    exact henc_exec

/-! ## Decimal arithmetic (rules R250 to R253 and R264) -/

/-- The byte whose two digits are those of `v`. -/
def bcdByte (v : Nat) : Byte := BitVec.ofNat 8 (v / 10 * 16 + v % 10)

theorem bcdByte_toNat {v : Nat} (hv : v < 100) : (bcdByte v).toNat = v / 10 * 16 + v % 10 := by
  rw [bcdByte, BitVec.toNat_ofNat]
  omega

theorem isBcd_bcdByte {v : Nat} (hv : v < 100) : isBcd (bcdByte v) := by
  rw [isBcd, bcdByte_toNat hv]
  omega

theorem bcdValue_bcdByte {v : Nat} (hv : v < 100) : bcdValue (bcdByte v) = v := by
  rw [bcdValue, bcdByte_toNat hv]
  omega

theorem bcdByte_number_eq_zero (v : Nat) : v / 10 * 16 + v % 10 = 0 ↔ v = 0 := by omega

/-- What DAA is to leave: a BCD byte of the value `v`, flag C as `carry`, and Z as the value is 0. -/
structure IsDecimalResult (v : Nat) (carry : Bool) (u : Byte × Flags) : Prop where
  bcd : isBcd u.1
  value : bcdValue u.1 = v
  carry : u.2.c = carry
  zero : u.2.z = decide (bcdValue u.1 = 0)

theorem isDecimalResult_bcdByte (v : Nat) (n h c : Bool) :
    IsDecimalResult (v % 100) c (bcdByte (v % 100), { z := decide (v % 100 = 0), n := n, h := h, c := c }) where
  bcd := isBcd_bcdByte (Nat.mod_lt v (by decide))
  value := bcdValue_bcdByte (Nat.mod_lt v (by decide))
  carry := rfl
  zero := by rw [bcdValue_bcdByte (Nat.mod_lt v (by decide))]

/-- Two BCD bytes added: 6 is due where the low digits pass 9, which H or the low nibble shows, and 0x60 where the whole
passes 99. -/
theorem daa_addWith {a b : Byte} (ha : isBcd a) (hb : isBcd b) (cin : Bool) :
    IsDecimalResult ((bcdValue a + bcdValue b + cin.toNat) % 100)
      (decide (100 ≤ bcdValue a + bcdValue b + cin.toNat)) (daa (addWith a b cin).1 (addWith a b cin).2) := by
  obtain ⟨hah, hal⟩ := ha
  obtain ⟨hbh, hbl⟩ := hb
  have hc : cin.toNat ≤ 1 := Bool.toNat_le cin
  generalize ht : bcdValue a + bcdValue b + cin.toNat = t
  rw [bcdValue, bcdValue] at ht
  have hlow : 15 < a.toNat % 16 + b.toNat % 16 + cin.toNat ∨ 9 < (a.toNat + b.toNat + cin.toNat) % 256 % 16 ↔
      9 < a.toNat % 16 + b.toNat % 16 + cin.toNat := by omega
  have hhigh : 255 < a.toNat + b.toNat + cin.toNat ∨ 0x99 < (a.toNat + b.toNat + cin.toNat) % 256 ↔ 100 ≤ t := by
    omega
  have hsum : ((a.toNat + b.toNat + cin.toNat) % 256 +
      ((if 9 < a.toNat % 16 + b.toNat % 16 + cin.toNat then 6 else 0) + (if 100 ≤ t then 0x60 else 0))) % 256 =
      t % 100 / 10 * 16 + t % 100 % 10 := by
    have hmod : t % 100 = if 100 ≤ t then t - 100 else t := by
      split <;> omega
    rw [Nat.mod_add_mod, hmod]
    split <;> split <;> omega
  rw [addWith_eq, daa_eq]
  simp only [BitVec.toNat_ofNat, decide_eq_true_eq, true_and, Bool.false_eq_true, if_false, Nat.reducePow, hlow, hhigh,
    hsum, bcdByte_number_eq_zero]
  exact isDecimalResult_bcdByte t ..

/-- A BCD byte less another: H and C are the borrows of the low digit and of the whole. -/
theorem daa_subWith {a b : Byte} (ha : isBcd a) (hb : isBcd b) (cin : Bool) :
    IsDecimalResult ((bcdValue a + 100 - (bcdValue b + cin.toNat)) % 100)
      (decide (bcdValue a < bcdValue b + cin.toNat)) (daa (subWith a b cin).1 (subWith a b cin).2) := by
  obtain ⟨hah, hal⟩ := ha
  obtain ⟨hbh, hbl⟩ := hb
  have hc : cin.toNat ≤ 1 := Bool.toNat_le cin
  generalize hx : bcdValue a = x
  generalize hy : bcdValue b + cin.toNat = y
  rw [bcdValue] at hx hy
  have hborrow : a.toNat < b.toNat + cin.toNat ↔ x < y := by omega
  have hdiff : ((a.toNat + 256 - (b.toNat + cin.toNat)) % 256 + 256 -
      ((if a.toNat % 16 < b.toNat % 16 + cin.toNat then 6 else 0) + (if x < y then 0x60 else 0))) % 256 =
      (x + 100 - y) % 100 / 10 * 16 + (x + 100 - y) % 100 % 10 := by
    have hmod : (x + 100 - y) % 100 = if x < y then x + 100 - y else x - y := by
      split <;> omega
    have hmodA : (a.toNat + 256 - (b.toNat + cin.toNat)) % 256 =
        if x < y then a.toNat + 256 - (b.toNat + cin.toNat) else a.toNat - (b.toNat + cin.toNat) := by
      split <;> omega
    rw [hmod, hmodA]
    split <;> split <;> omega
  rw [subWith_eq, daa_eq]
  simp only [BitVec.toNat_ofNat, decide_eq_true_eq, Bool.true_eq_false, false_and, or_false, if_true, Nat.reducePow,
    Nat.mod_mod, hborrow, hdiff, bcdByte_number_eq_zero]
  exact isDecimalResult_bcdByte (x + 100 - y) ..

/-- Settles O48: the ALU operation is `addWith` or `subWith`, and `daa` corrects what either leaves. -/
theorem decimalArithmetic : Obligations.DecimalArithmetic := by
  intro i j s t op b hi hj hop ha hb ht x y cin
  rw [exec_of_shape hi, shapeRun, opAlu_eq] at ht
  cases ht
  refine ⟨_, exec_of_shape hj _, ?_⟩
  simp only [shapeRun, opDaa, State.cost_cpu]
  obtain hop | hop : (op = .add ∨ op = .adc) ∨ op = .sub ∨ op = .sbc := by rwa [or_assoc]
  · have hcin : (decide (op = .adc) && s.cpu.f.c).toNat = cin := by
      rw [toNat_decide_and]
      obtain rfl | rfl := hop <;> simp [cin]
    have hsub : ¬ (op = .sub ∨ op = .sbc) := by
      obtain rfl | rfl := hop <;> decide
    have hdaa := daa_addWith ha hb (decide (op = .adc) && s.cpu.f.c)
    rw [← alu_add_or_adc hop, hcin] at hdaa
    exact ⟨hdaa.bcd, fun _ => ⟨hdaa.value, hdaa.carry⟩, fun h => absurd h hsub, hdaa.zero⟩
  · have hcin : (decide (op = .sbc) && s.cpu.f.c).toNat = cin := by
      rw [toNat_decide_and]
      obtain rfl | rfl := hop <;> simp [cin]
    have hadd : ¬ (op = .add ∨ op = .adc) := by
      obtain rfl | rfl := hop <;> decide
    have hdaa := daa_subWith ha hb (decide (op = .sbc) && s.cpu.f.c)
    rw [← alu_sub_or_sbc hop, hcin] at hdaa
    exact ⟨hdaa.bcd, fun h => absurd h hadd, fun _ => ⟨hdaa.value, hdaa.carry⟩, hdaa.zero⟩

end Sys2Proof.Machine

end

section

namespace Sys2Proof.Machine

/-! ## What an update of the CPU leaves alone (rules R20 to R23) -/

theorem Cpu.get_setReg_other (c : Cpu) {r : Reg8} (v : Byte) {q : CpuReg} (h : q ∉ [regOf r]) :
    (c.setReg r v).get q = c.get q := by
  have hset : (c.setReg r v).get q = if q = regOf r then Byte.zext v else c.get q := by
    cases r <;> cases q <;> rfl
  rw [hset, if_neg (List.ne_of_not_mem_cons h)]

theorem Cpu.get_setSp_other (c : Cpu) (v : Word) {q : CpuReg} (h : q ≠ .sp) :
    { c with sp := v }.get q = c.get q := by
  cases q with
  | sp => contradiction
  | _ => rfl

/-- Two registers written, as the halves of a pair are. -/
theorem Cpu.get_setReg_setReg_other (c : Cpu) {r₁ r₂ : Reg8} (v₁ v₂ : Byte) {q : CpuReg}
    (h : q ∉ [regOf r₁, regOf r₂]) : ((c.setReg r₁ v₁).setReg r₂ v₂).get q = c.get q := by
  obtain ⟨h₁, h₂⟩ := List.ne_and_not_mem_of_not_mem_cons h
  rw [Cpu.get_setReg_other _ v₂ h₂, Cpu.get_setReg_other _ v₁ (List.mem_singleton.not.mpr h₁)]

theorem Cpu.get_setHl_other (c : Cpu) (v : Word) {q : CpuReg} (h : q ∉ [.h, .l]) : (c.setHl v).get q = c.get q :=
  c.get_setReg_setReg_other (r₁ := .h) (r₂ := .l) (Word.hi v) (Word.lo v) h

theorem Cpu.get_setPair_other (c : Cpu) {p : Pair} (v : Word) {q : CpuReg} (h : q ∉ pairRegs p) :
    (c.setPair p v).get q = c.get q := by
  cases p with
  | sp => exact c.get_setSp_other v (List.ne_of_not_mem_cons h)
  | bc => exact c.get_setReg_setReg_other (r₁ := .b) (r₂ := .c) (Word.hi v) (Word.lo v) h
  | de => exact c.get_setReg_setReg_other (r₁ := .d) (r₂ := .e) (Word.hi v) (Word.lo v) h
  | hl => exact c.get_setHl_other v h

theorem Cpu.get_setStackPair_other (c : Cpu) {p : StackPair} (v : Word) {q : CpuReg} (h : q ∉ stackPairRegs p) :
    (c.setStackPair p v).get q = c.get q := by
  cases p with
  | bc => exact c.get_setPair_other (p := .bc) v h
  | de => exact c.get_setPair_other (p := .de) v h
  | hl => exact c.get_setHl_other v h
  | af => exact c.get_setReg_other (r := .a) _ h

@[simp] theorem Cpu.setHl_f (c : Cpu) (v : Word) : (c.setHl v).f = c.f := rfl

@[simp] theorem Cpu.setPair_f (c : Cpu) (p : Pair) (v : Word) : (c.setPair p v).f = c.f := by
  cases p <;> rfl

@[simp] theorem State.writeLoc_f (s : State) (o : Loc8) (v : Byte) : ((s.noteLoc o).writeLoc o v).cpu.f = s.cpu.f := by
  cases o with
  | reg r => exact s.cpu.setReg_f r v
  | mem => exact congrArg Cpu.f ((s.noteRead s.cpu.hl).busWrite_cpu s.cpu.hl v)

theorem State.get_writeLoc_other (s : State) {o : Loc8} (v : Byte) {q : CpuReg} (h : q ∉ locRegs o) :
    ((s.noteLoc o).writeLoc o v).cpu.get q = s.cpu.get q := by
  cases o with
  | reg r => exact s.cpu.get_setReg_other v h
  | mem => exact congrArg (Cpu.get · q) ((s.noteRead s.cpu.hl).busWrite_cpu s.cpu.hl v)

theorem State.get_modifyHl (s : State) (x : Byte × Flags) (q : CpuReg) : (s.modifyHl x).cpu.get q = s.cpu.get q := by
  rw [State.modifyHl, State.busWrite_cpu]
  rfl

@[simp] theorem State.modifyHl_f (s : State) (x : Byte × Flags) : (s.modifyHl x).cpu.f = x.2 := rfl

@[simp] theorem State.push16_f (s : State) (v : Word) : (s.push16 v).cpu.f = s.cpu.f := by
  rw [State.push16_cpu]

@[simp] theorem State.returnPop_f (s : State) : s.returnPop.cpu.f = s.cpu.f := rfl

theorem State.get_push16_other (s : State) (v : Word) {q : CpuReg} (h : q ≠ .sp) :
    (s.push16 v).cpu.get q = s.cpu.get q := by
  rw [State.push16_cpu, Cpu.get_setSp_other _ _ h]

/-- The push and jump of a call. -/
theorem State.get_push16_setPc_other (s : State) (v a : Word) {q : CpuReg} (h : q ≠ .sp) :
    ((s.push16 v).setPc a).cpu.get q = s.cpu.get q := by
  rw [State.setPc_cpu, State.push16_cpu]
  exact s.cpu.get_setSp_other (s.cpu.sp - 1 - 1) h

@[simp] theorem State.push16_setPc_f (s : State) (v a : Word) : ((s.push16 v).setPc a).cpu.f = s.cpu.f := by
  rw [State.setPc_cpu, State.push16_cpu]

theorem State.get_returnPop_other (s : State) {q : CpuReg} (h : q ≠ .sp) : s.returnPop.cpu.get q = s.cpu.get q := by
  rw [State.returnPop, State.setPc_cpu, State.pop16_cpu]
  exact s.cpu.get_setSp_other (s.cpu.sp + 1 + 1) h

/-! ## The registers an instruction may write -/

/-- The operation of every shape keeps the registers outside `destRegs`. -/
theorem shapeRun_get_other (sh : Shape) (s : State) {q : CpuReg} (h : q ∉ destRegs sh) :
    (shapeRun sh s).cpu.get q = s.cpu.get q := by
  cases sh with
  | nop | halt | stop | di | ei | illegal _ | scf | ccf | bit _ _ | jp _ | jpHl | jr _ => rfl
  | jpCond _ _ | jrCond _ _ =>
    simp only [shapeRun, opJpCond, opJrCond]
    split <;> rfl
  | ldHlReg _ | ldHlImm _ | ldIndA _ | ldAbsA _ | ldhStoreA _ | ldHighCA =>
    exact congrArg (Cpu.get · q) (s.busWrite_cpu ..)
  | ldAbsSp a => rw [shapeRun, opLdAbsSp, State.cost_cpu, State.busWrite_cpu, State.busWrite_cpu]
  | incMem | decMem => exact s.get_modifyHl _ q
  | ldRegReg _ _ | ldRegImm _ _ | ldRegHl _ | incReg _ | decReg _ => exact s.cpu.get_setReg_other _ h
  | ldAInd _ | ldAAbs _ | ldhA _ | ldAHighC | daa | cpl | rotA _ => exact s.cpu.get_setReg_other (r := .a) _ h
  | alu op _ =>
    cases op with
    | cp => rfl
    | add | adc | sub | sbc | and | xor | or => exact s.cpu.get_setReg_other (r := .a) _ h
  | ldAHlStep _ =>
    obtain ⟨ha, hhl⟩ := List.ne_and_not_mem_of_not_mem_cons h
    exact (Cpu.get_setHl_other _ _ hhl).trans (s.cpu.get_setReg_other (r := .a) _ (List.mem_singleton.not.mpr ha))
  | ldHlStepA _ => exact (Cpu.get_setHl_other _ _ h).trans (congrArg (Cpu.get · q) (s.busWrite_cpu ..))
  | ldHlSpE8 _ | addHl _ => exact s.cpu.get_setHl_other _ h
  | ldPairImm _ _ | incPair _ | decPair _ => exact s.cpu.get_setPair_other _ h
  | ldSpHl | addSp _ => exact s.cpu.get_setSp_other _ (List.ne_of_not_mem_cons h)
  | rot _ _ | res _ _ | setBit _ _ => exact s.get_writeLoc_other _ h
  | push p => exact s.get_push16_other (s.cpu.stackPair p) (List.ne_of_not_mem_cons h)
  | call _ | rst _ => exact s.get_push16_setPc_other s.cpu.pc _ (List.ne_of_not_mem_cons h)
  | callCond _ _ =>
    simp only [shapeRun, opCallCond]
    split
    · exact s.get_push16_setPc_other s.cpu.pc _ (List.ne_of_not_mem_cons h)
    · rfl
  | pop _ =>
    obtain ⟨hsp, hpair⟩ := List.ne_and_not_mem_of_not_mem_cons h
    exact (Cpu.get_setStackPair_other _ _ hpair).trans (s.cpu.get_setSp_other _ hsp)
  | ret | reti => exact s.get_returnPop_other (List.ne_of_not_mem_cons h)
  | retCond _ =>
    simp only [shapeRun, opRetCond]
    split
    · exact s.get_returnPop_other (List.ne_of_not_mem_cons h)
    · rfl

/-! ## The flags an instruction may write (rule R268) -/

/-- `g` is `f` but for the flags Z, N, H, C that `w` marks. -/
structure Flags.KeptOutside (w : Bool × Bool × Bool × Bool) (f g : Flags) : Prop where
  z : w.1 = false → g.z = f.z
  n : w.2.1 = false → g.n = f.n
  h : w.2.2.1 = false → g.h = f.h
  c : w.2.2.2 = false → g.c = f.c

theorem Flags.KeptOutside.of_eq {f g : Flags} (w : Bool × Bool × Bool × Bool) (h : g = f) : f.KeptOutside w g := by
  subst h
  exact ⟨fun _ => rfl, fun _ => rfl, fun _ => rfl, fun _ => rfl⟩

theorem Flags.keptOutside_all (f g : Flags) : f.KeptOutside (true, true, true, true) g :=
  ⟨nofun, nofun, nofun, nofun⟩

/-- The operation of every shape keeps the flags outside `flagWrites`. -/
theorem shapeRun_flags (sh : Shape) (s : State) :
    s.cpu.f.KeptOutside (flagWrites sh) (shapeRun sh s).cpu.f := by
  cases sh with
  | alu _ _ | rotA _ | rot _ _ | addSp _ | ldHlSpE8 _ => exact Flags.keptOutside_all ..
  | incReg _ | decReg _ | bit _ _ => exact ⟨nofun, nofun, nofun, fun _ => rfl⟩
  | incMem | decMem => exact ⟨nofun, nofun, nofun, fun _ => rfl⟩
  | daa => exact ⟨nofun, fun _ => rfl, nofun, nofun⟩
  | cpl => exact ⟨fun _ => rfl, nofun, nofun, fun _ => rfl⟩
  | scf | ccf | addHl _ => exact ⟨fun _ => rfl, nofun, nofun, nofun⟩
  | pop p =>
    cases p with
    | af => exact Flags.keptOutside_all ..
    | bc | de | hl => exact .of_eq _ rfl
  | nop | halt | stop | di | ei | illegal _ | ldSpHl | jp _ | jpHl | jr _ => exact .of_eq _ rfl
  | jpCond _ _ | jrCond _ _ =>
    simp only [shapeRun, opJpCond, opJrCond]
    split <;> exact .of_eq _ rfl
  | ldRegReg _ _ | ldRegImm _ _ | ldRegHl _ | ldAInd _ | ldAAbs _ | ldhA _ | ldAHighC | ldAHlStep _ =>
    exact .of_eq _ (s.cpu.setReg_f ..)
  | ldPairImm _ _ | incPair _ | decPair _ => exact .of_eq _ (s.cpu.setPair_f ..)
  | ldHlReg _ | ldHlImm _ | ldIndA _ | ldAbsA _ | ldhStoreA _ | ldHighCA =>
    exact .of_eq _ (congrArg Cpu.f (s.busWrite_cpu ..))
  | ldHlStepA _ => exact .of_eq _ (congrArg (fun c : Cpu => c.f) (s.busWrite_cpu s.cpu.hl s.cpu.a) :)
  | ldAbsSp _ =>
    exact .of_eq _ (congrArg Cpu.f ((State.busWrite_cpu ..).trans (s.busWrite_cpu ..)))
  | res _ _ | setBit _ _ => exact .of_eq _ (s.writeLoc_f ..)
  | push _ => exact .of_eq _ (s.push16_f _)
  | call _ | rst _ => exact .of_eq _ (s.push16_setPc_f ..)
  | callCond _ _ =>
    simp only [shapeRun, opCallCond]
    split
    · exact .of_eq _ (s.push16_setPc_f ..)
    · exact .of_eq _ rfl
  | ret | reti => exact .of_eq _ s.returnPop_f
  | retCond _ =>
    simp only [shapeRun, opRetCond]
    split
    · exact .of_eq _ s.returnPop_f
    · exact .of_eq _ rfl

/-- Settles O59: an instruction is its shape's operation, which keeps the registers outside `destRegs` and the flags
outside `flagWrites`. -/
theorem frameRegisters : Obligations.FrameRegisters := by
  intro i s t h
  rw [exec_eq] at h
  cases h
  obtain ⟨hz, hn, hh, hc⟩ := shapeRun_flags i.shape s
  exact ⟨fun _ hr => shapeRun_get_other i.shape s hr, hz, hn, hh, hc⟩

end Sys2Proof.Machine

end

section

namespace Sys2Proof.Machine

/-! ## 16-bit arithmetic on pairs (rules R290 to R292) -/

/-- Settles O49: ADD HL,rr is `addHl` on numbers, INC and DEC are one step of the pair; the pair field and the bit below
it are the upper part of the opcode, whatever the pair. -/
theorem pairArithmetic : Obligations.PairArithmetic := by
  refine ⟨fun i s p h => ?addHl, fun i s p h => ?incPair, fun i s p h => ?decPair⟩ <;>
    obtain ⟨henc, hexec⟩ := encode_exec_of_shape h s
  case addHl =>
    rw [shapeRun, opAddHl, addHl_eq] at hexec
    exact ⟨by cases p <;> exact henc, hexec⟩
  case incPair | decPair => cases p <;> exact ⟨henc, hexec⟩

end Sys2Proof.Machine

end

section

namespace Sys2Proof.Machine

/-! ## An operand read and written back (rule R309) -/

/-- One read and one write at HL; the write keeps the count of the oracle's answers (log entry 6). -/
theorem State.writeLoc_mem_eq (s : State) (v : Byte) : (s.noteLoc .mem).writeLoc .mem v =
    { s.busWrite s.cpu.hl v with extReads := s.extReads + extAnswers s.cpu.hl } := by
  rw [State.noteLoc, State.writeLoc, State.noteRead_cpu, State.busWrite_noteRead, State.noteRead,
    State.busWrite_extReads]

/-! ## Rotates and shifts (rules R300 to R303 and R310 to R317) -/

theorem rotFlags_ofNat {r : Nat} (hr : r < 256) (c : Bool) :
    rotFlags (BitVec.ofNat 8 r) c = { z := decide (r = 0), n := false, h := false, c := c } := by
  have hz : BitVec.ofNat 8 r = 0 ↔ r = 0 := by
    simp [← BitVec.toNat_inj, Nat.mod_eq_of_lt hr]
  simp only [rotFlags, hz]

theorem opRotA_eq (op : AccRotOp) (s : State) :
    let r := rotValue (accRot op) s.cpu.a.toNat s.cpu.f.c.toNat
    opRotA op s = { s with
      cpu := { s.cpu with a := BitVec.ofNat 8 r.1, f := { z := false, n := false, h := false, c := r.2 } }
      mcycles := 1 } := by
  simp only [opRotA, rotAcc_eq]
  rfl

theorem opRot_eq (op : RotOp) (o : Loc8) (s : State) :
    let x := rotValue op (s.readLoc o).toNat s.cpu.f.c.toNat
    let t := (s.noteLoc o).writeLoc o (BitVec.ofNat 8 x.1)
    opRot op o s = { t with
      cpu := { t.cpu with f := { z := decide (x.1 = 0), n := false, h := false, c := x.2 } }
      mcycles := cbCost o } := by
  simp only [opRot, rotShift_eq, rotFlags_ofNat (rotValue_lt ..)]
  rfl

/-- Settles O50: `rotAcc` and `rotShift` on numbers, put in A, in a register or written back at HL. -/
theorem rotateShift : Obligations.RotateShift := by
  refine ⟨fun i s op h => ?acc, fun i s op r h => ?reg, fun i s op h => ?mem⟩ <;>
    have henc_exec := encode_exec_of_shape h s
  case acc =>
    rw [shapeRun, opRotA_eq] at henc_exec
    exact henc_exec
  case reg =>
    rw [shapeRun, opRot_eq] at henc_exec
    exact henc_exec
  case mem =>
    simp only [shapeRun, opRot_eq, State.writeLoc_mem_eq, State.busWrite_cpu] at henc_exec
    exact henc_exec

/-! ## BIT (rule R318) -/

theorem opBit_eq (n : BitVec 3) (o : Loc8) (s : State) : opBit n o s = { s.noteLoc o with
    cpu := { s.cpu with
      f := { z := decide ((s.readLoc o).toNat / 2 ^ n.toNat % 2 = 0), n := false, h := true, c := s.cpu.f.c } }
    mcycles := bitCost o } := by
  rw [opBit, bitFlags, bit_clear_eq]
  rfl

/-- Settles O51: the read of `(HL)` counts the oracle's answers; the flags are all that is written. -/
theorem bitTest : Obligations.BitTest := by
  refine ⟨fun i s n r h => ?reg, fun i s n h => ?mem⟩ <;> have henc_exec := encode_exec_of_shape h s
  case reg | mem =>
    rw [shapeRun, opBit_eq] at henc_exec
    exact henc_exec

/-! ## RES and SET (rules R319 and R320) -/

/-- Settles O52: the byte is `resBit` or `setBit` of the operand, written back where it was read. -/
theorem bitResetSet : Obligations.BitResetSet := by
  intro i s n o on h
  obtain ⟨w, hbits, henc, hexec⟩ : ∃ w : Byte,
      (∀ k, k < 8 → w.getLsbD k = if k = n.toNat then on else (s.readLoc o).getLsbD k) ∧
      encode i = [0xCB, (if on then (3 : BitVec 2) else 2) ++ n ++ o.code] ∧
      exec i s = .next (((s.noteLoc o).writeLoc o w).cost (cbCost o)) := by
    cases on with
    | false => exact ⟨resBit (s.readLoc o) n, resBit_bits _ n, encode_exec_of_shape h s⟩
    | true => exact ⟨setBit (s.readLoc o) n, setBit_bits _ n, encode_exec_of_shape h s⟩
  refine ⟨henc, w, hbits, ?_⟩
  cases o with
  | reg r => exact hexec
  | mem =>
    rw [State.writeLoc_mem_eq] at hexec
    exact hexec

end Sys2Proof.Machine

end

section

namespace Sys2Proof.Machine

/-! ## Conditions (rule R135) -/

/-- The conditions read bits 7 and 4 of F. -/
theorem condHolds_byte (f : Flags) : condHolds f .nz = !f.byte.getLsbD 7 ∧ condHolds f .z = f.byte.getLsbD 7 ∧
    condHolds f .nc = !f.byte.getLsbD 4 ∧ condHolds f .c = f.byte.getLsbD 4 := by
  obtain ⟨hz, -, -, hc⟩ := f.byte_high
  rw [hz, hc]
  exact ⟨rfl, rfl, rfl, rfl⟩

/-- A condition stands in bits 4 and 3 of the opcodes of `JP`, `CALL` and `RET`. -/
theorem opcode_cond_y (cc : Cond) (z : BitVec 3) : opcode 3 cc.y z = (6 : BitVec 3) ++ cc.code ++ z := by
  revert z
  cases cc <;> decide

/-! ## Jumps (rules R340 to R344) -/

/-- The displacement counts from the next instruction, modulo 2^16. -/
theorem word_add_sext (w : Word) (e : Byte) : w + Byte.sext e = BitVec.ofInt 16 (w.toNat + e.toInt) := by
  rw [BitVec.ofInt_add, BitVec.ofInt_natCast, BitVec.ofNat_toNat, BitVec.setWidth_eq]
  rfl

/-- Settles O53: each form is `setPc` of its target, the conditional ones only when the condition holds. -/
theorem jumps : Obligations.Jumps := by
  refine ⟨condHolds_byte, fun i s a h => encode_exec_of_shape h s, fun i s cc a h => ?jpCond,
    fun i s h => encode_exec_of_shape h s, fun i s e h => ?jr, fun i s cc e h => ?jrCond⟩ <;>
    obtain ⟨henc, hexec⟩ := encode_exec_of_shape h s
  case jpCond =>
    rw [Shape.encode, opcode_cond_y] at henc
    exact ⟨henc, hexec⟩
  case jr =>
    rw [shapeRun, opJr, word_add_sext] at hexec
    exact ⟨henc, hexec⟩
  case jrCond =>
    rw [shapeRun, opJrCond, word_add_sext] at hexec
    exact ⟨by cases cc <;> exact henc, hexec⟩

/-! ## Calls (rules R345, R346 and R352) -/

/-- A call pushes the return address and goes to its target. -/
theorem State.push16_setPc_cost (s : State) (v a : Word) (n : Nat) : ((s.push16 v).setPc a).cost n =
    { s.push16 v with cpu := { s.cpu with sp := s.cpu.sp - 2, pc := a }, mcycles := n } := by
  rw [State.cost, State.setPc, State.push16_cpu, word_sub_one_one]

/-- Settles O54: each form is `push16` of PC and `setPc` of its target, CALL cc only when the condition holds. -/
theorem calls : Obligations.Calls := by
  refine ⟨fun i s a h => ?call, fun i s cc a h => ?callCond, fun i s n h => ?rst⟩ <;>
    obtain ⟨henc, hexec⟩ := encode_exec_of_shape h s
  case call =>
    rw [shapeRun, opCall, State.push16_setPc_cost] at hexec
    exact ⟨henc, hexec⟩
  case callCond =>
    rw [Shape.encode, opcode_cond_y] at henc
    rw [shapeRun, opCallCond, State.push16_setPc_cost] at hexec
    exact ⟨henc, hexec⟩
  case rst =>
    rw [shapeRun, opRst, State.push16_setPc_cost, rstTarget, Nat.mul_comm] at hexec
    exact ⟨henc, hexec⟩

/-! ## Returns (rules R349 to R351) -/

/-- A return moves SP two up, puts PC at the word popped and counts two reads (log entry 6). -/
theorem State.returnPop_eq (s : State) : s.returnPop = { s with
    cpu := { s.cpu with
      sp := s.cpu.sp + 2
      pc := Word.ofBytes ((s.noteRead s.cpu.sp).busRead (s.cpu.sp + 1)) (s.busRead s.cpu.sp) }
    extReads := s.extReads + extAnswers s.cpu.sp + extAnswers (s.cpu.sp + 1) } := by
  rw [State.returnPop, State.pop16_eq, State.setPc]

/-- Settles O55: each form is `returnPop`, RET cc only when the condition holds; RETI then sets IME. -/
theorem returns : Obligations.Returns := by
  refine fun i s => ⟨fun h => ?ret, fun cc h => ?retCond, fun h => ?reti⟩ <;>
    obtain ⟨henc, hexec⟩ := encode_exec_of_shape h s
  case ret =>
    rw [shapeRun, opRet, State.returnPop_eq] at hexec
    exact ⟨henc, hexec⟩
  case retCond =>
    rw [Shape.encode, opcode_cond_y] at henc
    rw [shapeRun, opRetCond, State.returnPop_eq] at hexec
    exact ⟨henc, hexec⟩
  case reti =>
    rw [shapeRun, opReti, State.returnFromInterrupt, State.returnPop_eq] at hexec
    exact ⟨henc, hexec⟩

end Sys2Proof.Machine

end

section

namespace Sys2Proof.Machine

/-! ## System instructions (rules R370 to R375) -/

/-- Settles O56: each shape's operation is one update of the CPU and its cost. -/
theorem systemInstructions : Obligations.SystemInstructions :=
  ⟨fun _ s h => encode_exec_of_shape h s, fun _ s h => encode_exec_of_shape h s,
    fun _ s h => encode_exec_of_shape h s, fun _ s h => encode_exec_of_shape h s⟩

/-! ## STOP and the undefined opcodes (rules R373, R377 and R421) -/

/-- Only the rows of the undefined opcodes (rule R142) have an `illegal` shape. -/
theorem wellFormed_eq_false_of_shape_illegal {i : Instr} {op : Byte} (h : i.shape = .illegal op) :
    i.wellFormed = false := by
  cases i with
  | illegalD3 | illegalDB | illegalDD | illegalE3 | illegalE4 | illegalEB | illegalEC | illegalED | illegalF4
  | illegalFC | illegalFD => rfl
  | _ => nomatch h

/-- Settles O57: both shapes raise their reason at the opcode's address; of STOP's two bytes the first is the opcode. -/
theorem fatalOpcodes : Obligations.FatalOpcodes := by
  refine ⟨fun i s h => ?stop, fun i s op h => ?illegal⟩ <;> have henc_exec := encode_exec_of_shape h s
  case stop => exact henc_exec.imp_left (congrArg List.head?)
  case illegal => exact ⟨wellFormed_eq_false_of_shape_illegal h, henc_exec⟩

end Sys2Proof.Machine

end

section

namespace Sys2Proof.Machine

/-! ## The step by its three cases (rules R400 and R421) -/

theorem step_of_fatal {s : State} {r : FatalReason} (h : s.cpu.fatal = some r) : step s = .fault r.fault := by
  rw [step, State.stepOnce, h]

theorem step_of_halted {s : State} (hf : s.cpu.fatal = none) (hh : s.cpu.halted = true) :
    step s = .next s.extTurn.haltedStep.finishStep := by
  rw [step, State.stepOnce, hf]
  exact if_pos hh

/-- The state an instruction leaves before its cost is advanced. -/
def State.executed (s : State) : State := shapeRun s.fetchInstr.1.shape s.fetchInstr.2

theorem step_of_running {s : State} (hf : s.cpu.fatal = none) (hh : s.cpu.halted = false) :
    step s = .next s.extTurn.executed.afterInstr := by
  rw [step, State.stepOnce, hf]
  have hrun : s.extTurn.cpuStep = s.extTurn.instrStep := if_neg (by simp [hh])
  rw [hrun, State.instrStep, exec_eq]
  rfl

/-- Settles O7: the latched reason is the fault. -/
theorem fatalStops : Obligations.FatalStops :=
  ⟨fun _ _ _ h => step_of_fatal h, fun _ _ h => step_of_fatal h⟩

theorem State.wake_eq (s : State) :
    s.wake = { s with cpu := { s.cpu with halted := decide (s.irq.req = 0) && s.cpu.halted } } := by
  unfold State.wake
  split
  next h => rw [decide_eq_false h, Bool.false_and]
  next h => rw [decide_eq_true (not_not.mp h), Bool.true_and]

/-- Settles O6: the halted step is one M-cycle and the wake test, which looks at IF alone. -/
theorem haltedStep : Obligations.HaltedStep := by
  intro s hf hh
  rw [step_of_halted hf hh, State.haltedStep, State.wake_eq, State.finishStep]

/-! ## Fetching (rules R130, R139, R401) -/

theorem encode_injective : Function.Injective encode := by
  intro i j h
  have hi := decodeEncode i []
  rw [h, decodeEncode j []] at hi
  cases hi
  rfl

/-- Bytes past an instruction's length are not looked at. -/
theorem decodeBytes_congr (op : Byte) {b1 b2 c1 c2 : Byte}
    (h : [b1, b2].take (fetchLength op - 1) = [c1, c2].take (fetchLength op - 1)) :
    decodeBytes op b1 b2 = decodeBytes op c1 c2 := by
  by_cases hstop : op = 0x10
  · subst hstop
    rfl
  · rw [fetchLength, if_neg hstop] at h
    apply encode_injective
    rw [encode_decodeBytes op _ _ hstop, encode_decodeBytes op _ _ hstop, h]

theorem fetchLength_cases (op : Byte) : fetchLength op = 1 ∨ fetchLength op = 2 ∨ fetchLength op = 3 := by
  have := opLength_bounds op
  unfold fetchLength
  split <;> omega

theorem State.fetch_of_length_one {s : State} (h : fetchLength (s.busRead s.cpu.pc) = 1) : s.fetch =
    ((s.busRead s.cpu.pc, 0, 0), { s with
      cpu := { s.cpu with pc := s.cpu.pc + 1 }, extReads := s.extReads + extAnswers s.cpu.pc }) :=
  if_pos h

theorem State.fetch_of_length_two {s : State} (h : fetchLength (s.busRead s.cpu.pc) = 2) : s.fetch =
    ((s.busRead s.cpu.pc, (s.noteRead s.cpu.pc).busRead (s.cpu.pc + 1), 0), { s with
      cpu := { s.cpu with pc := s.cpu.pc + 2 }
      extReads := s.extReads + (extAnswers s.cpu.pc + extAnswers (s.cpu.pc + 1)) }) := by
  have hne : ¬ fetchLength s.imm8.1 = 1 := by
    rw [State.imm8, h]
    decide
  rw [← word_add_one_one, ← Nat.add_assoc]
  exact (if_neg hne).trans (if_pos h)

theorem State.fetch_of_length_three {s : State} (h : fetchLength (s.busRead s.cpu.pc) = 3) : s.fetch =
    ((s.busRead s.cpu.pc, (s.noteRead s.cpu.pc).busRead (s.cpu.pc + 1),
      ((s.noteRead s.cpu.pc).noteRead (s.cpu.pc + 1)).busRead (s.cpu.pc + 2)), { s with
      cpu := { s.cpu with pc := s.cpu.pc + 2 + 1 }
      extReads := s.extReads + (extAnswers s.cpu.pc + extAnswers (s.cpu.pc + 1) + extAnswers (s.cpu.pc + 2)) }) := by
  have hne1 : ¬ fetchLength s.imm8.1 = 1 := by
    rw [State.imm8, h]
    decide
  have hne2 : ¬ fetchLength s.imm8.1 = 2 := by
    rw [State.imm8, h]
    decide
  rw [← word_add_one_one, ← Nat.add_assoc, ← Nat.add_assoc]
  exact (if_neg hne1).trans (if_neg hne2)

/-- The instruction fetched is the one the three bytes at PC decode to, and the fetch moves PC past it and counts its
reads (log entry 6). -/
theorem State.fetchInstr_eq (s : State) :
    let pc := s.cpu.pc
    let b0 := s.busRead pc
    let b1 := (s.noteRead pc).busRead (pc + 1)
    let b2 := ((s.noteRead pc).noteRead (pc + 1)).busRead (pc + 2)
    s.fetchInstr = (decodeBytes b0 b1 b2, { s with
      cpu := { s.cpu with pc := pc + BitVec.ofNat 16 (fetchLength b0) }
      extReads := s.extReads + (extAnswers pc + (if 2 ≤ fetchLength b0 then extAnswers (pc + 1) else 0) +
        (if 3 ≤ fetchLength b0 then extAnswers (pc + 2) else 0)) }) := by
  intro pc b0 b1 b2
  obtain h | h | h := fetchLength_cases b0
  · rw [State.fetchInstr, State.fetch_of_length_one h, h]
    exact Prod.ext (decodeBytes_congr b0 (by rw [h]; rfl)) rfl
  · rw [State.fetchInstr, State.fetch_of_length_two h, h]
    exact Prod.ext (decodeBytes_congr b0 (by rw [h]; rfl)) rfl
  · have hpc : pc + 2 + 1 = pc + BitVec.ofNat 16 3 := BitVec.add_assoc pc 2 1
    rw [State.fetchInstr, State.fetch_of_length_three h, h, hpc]
    rfl

/-- Settles O5: the step is the fetch, the operation, and what follows it; `decode` reads the same three bytes. -/
theorem stepRunsDecoded : Obligations.StepRunsDecoded := by
  intro s i rest hf hh e pc b0 b1 b2 answers f hdecode
  obtain ⟨-, hi, -⟩ := (decode_cons_eq_ok_iff ..).mp hdecode
  have hfetch : e.fetchInstr = (i, f) := by
    rw [← hi]
    exact e.fetchInstr_eq
  rw [step_of_running hf hh, State.executed, hfetch, exec_eq, State.afterInstr]
  rfl

end Sys2Proof.Machine

end

section

namespace Sys2Proof.Machine

/-! ## `Advance` (rule R402) -/

@[simp] theorem State.timerTick_cycles (s : State) : s.timerTick.cycles = s.cycles :=
  (congrArg State.cycles s.timerTick_frame :)

@[simp] theorem State.dmaTick_cycles (s : State) : s.dmaTick.cycles = s.cycles :=
  (congrArg State.cycles s.dmaTick_frame :)

@[simp] theorem State.ppuTick_cycles (s : State) : s.ppuTick.cycles = s.cycles := by
  obtain ⟨-, -, -, -, -, -, -, hcycles, -⟩ := s.ppuTick_same
  exact hcycles

@[simp] theorem State.tCycle_cycles (s : State) : s.tCycle.cycles = s.cycles + 1 := by simp [State.tCycle]

@[simp] theorem State.mCycle_cycles (s : State) : s.mCycle.cycles = s.cycles + 4 := by
  simp [State.mCycle, State.tCycles]

theorem State.advance_cycles (m : Nat) (s : State) : (State.advance m s).cycles = s.cycles + 4 * m := by
  induction m generalizing s with
  | zero => rfl
  | succ m ih =>
    rw [State.advance, ih, State.mCycle_cycles]
    omega

/-- Settles O9: the recursion is `Advance` itself, and each M-cycle counts four. -/
theorem advanceOrder : Obligations.AdvanceOrder :=
  ⟨fun _ => rfl, fun _ _ => rfl, State.advance_cycles⟩

/-! ## Dispatch (rules R424 to R428) -/

theorem Irq.pending_eq_true {q : Irq} {i : Nat} :
    q.pending i = true ↔ q.req.getLsbD i = true ∧ q.enable.getLsbD i = true := by
  rw [Irq.pending, Bool.and_eq_true, and_comm]

theorem State.dispatchCheck_of_lowest {s : State} {i : Nat} (h : s.irq.lowestSource = some i) :
    s.dispatchCheck = State.advance 5 (s.takeInterrupt i) := by
  rw [State.dispatchCheck, h]

theorem State.dispatchCheck_of_none {s : State} (h : s.irq.lowestSource = none) : s.dispatchCheck = s := by
  rw [State.dispatchCheck, h]

/-- Clearing bit `i` of the five request bits. -/
theorem getLsbD_clear_bit (v : BitVec 5) (i : Nat) {j : Nat} (hj : j < 5) :
    (v &&& ~~~((1 : BitVec 5) <<< i)).getLsbD j = (v.getLsbD j && decide (j ≠ i)) := by
  have hone : (1 : BitVec 5).getLsbD (j - i) = decide (j - i = 0) := by
    simp
  rw [BitVec.getLsbD_and, BitVec.getLsbD_not, BitVec.getLsbD_shiftLeft, hone]
  congr 1
  simp only [hj, decide_true, Bool.true_and, ← decide_not, ← Bool.decide_and, decide_eq_decide]
  omega

/-- Settles O12: the least pending source is the one found, and taking it changes what `takeInterrupt` names. -/
theorem dispatchTakesLeast : Obligations.DispatchTakesLeast := by
  intro s i hi hreq hen hleast
  have hlow : s.irq.lowestSource = some i := by
    refine Irq.lowestSource_eq_some.mpr ⟨hi, Irq.pending_eq_true.mpr ⟨hreq, hen⟩, fun j hj => ?_⟩
    rw [← Bool.not_eq_true, Irq.pending_eq_true]
    exact hleast j hj
  refine ⟨s.takeInterrupt i, State.dispatchCheck_of_lowest hlow, ?_, rfl,
    fun j hj => getLsbD_clear_bit _ i hj, rfl⟩
  rw [State.takeInterrupt_cpu, word_sub_one_one]
  rfl

theorem State.imeTurn_of_ime_clear {s : State} (h : s.cpu.ime = false) : s.imeTurn = s := if_neg (by simp [h])

/-- Settles O13: with no source pending none is found, and without IME none is looked for. -/
theorem noDispatch : Obligations.NoDispatch := by
  refine ⟨fun s h => ?_, fun s h => State.imeTurn_of_ime_clear h⟩
  cases hlow : s.irq.lowestSource with
  | none => exact State.dispatchCheck_of_none hlow
  | some i =>
    obtain ⟨hi, hpending, -⟩ := Irq.lowestSource_eq_some.mp hlow
    exact absurd (Irq.pending_eq_true.mp hpending) (h i hi)

end Sys2Proof.Machine

end

section

namespace Sys2Proof.Machine

/-! ## What an instruction is made of: CPU work and bus writes -/

/-- A property of states that work on the CPU, on the cost and on the count of the oracle's answers keeps, and that bus
writes keep. -/
structure InstrStable (P : State → Prop) : Prop where
  cpu : ∀ (s : State) (c : Cpu) (m r : Nat), P s → P { s with cpu := c, mcycles := m, extReads := r }
  write : ∀ (s : State) (a : Word) (v : Byte), P s → P (s.busWrite a v)

namespace InstrStable

variable {P : State → Prop} {s : State}

theorem push16 (hP : InstrStable P) (h : P s) (v : Word) : P (s.push16 v) := by
  rw [State.push16_eq]
  exact hP.cpu (State.busWrite ..) _ _ _ (hP.write (State.busWrite ..) _ _ (hP.write s _ _ h))

/-- The push and jump of a call. -/
theorem push16_setPc_cost (hP : InstrStable P) (h : P s) (v a : Word) (n : Nat) :
    P (((s.push16 v).setPc a).cost n) :=
  hP.cpu (s.push16 v) _ _ _ (hP.push16 h v)

theorem returnPop (hP : InstrStable P) (h : P s) : P s.returnPop := by
  rw [State.returnPop_eq]
  exact hP.cpu s _ _ _ h

/-- An operand read and written in place. -/
theorem writeLoc (hP : InstrStable P) (h : P s) (o : Loc8) (v : Byte) : P ((s.noteLoc o).writeLoc o v) := by
  cases o with
  | reg r => exact hP.cpu s _ _ _ h
  | mem => exact hP.write (s.noteRead s.cpu.hl) _ _ (hP.cpu s _ _ _ h)

/-- The operation of every shape keeps the property. -/
theorem shapeRun (hP : InstrStable P) (h : P s) (sh : Shape) : P (shapeRun sh s) := by
  cases sh with
  | nop | halt | stop | di | ei | illegal _ | ldRegReg _ _ | ldRegImm _ _ | ldRegHl _ | ldAInd _ | ldAHlStep _
  | ldAAbs _ | ldhA _ | ldAHighC | ldPairImm _ _ | ldSpHl | ldHlSpE8 _ | incReg _ | decReg _ | daa | cpl | scf | ccf
  | addHl _ | incPair _ | decPair _ | addSp _ | rotA _ | jp _ | jpHl | jr _ =>
    exact hP.cpu s _ _ _ h
  | alu _ o => cases o <;> exact hP.cpu s _ _ _ h
  | bit _ o => cases o <;> exact hP.cpu s _ _ _ h
  | jpCond _ _ | jrCond _ _ =>
    simp only [Machine.shapeRun, opJpCond, opJrCond]
    split <;> exact hP.cpu s _ _ _ h
  | ldHlReg _ | ldHlImm _ | ldHlStepA _ | ldIndA _ | ldAbsA _ | ldhStoreA _ | ldHighCA =>
    exact hP.cpu (s.busWrite _ _) _ _ _ (hP.write s _ _ h)
  | ldAbsSp _ => exact hP.cpu (State.busWrite ..) _ _ _ (hP.write (s.busWrite _ _) _ _ (hP.write s _ _ h))
  | incMem | decMem =>
    exact hP.cpu (State.busWrite ..) _ _ _ (hP.write (s.noteRead s.cpu.hl) _ _ (hP.cpu s _ _ _ h))
  | rot _ o | res _ o | setBit _ o => exact hP.cpu (State.writeLoc ..) _ _ _ (hP.writeLoc h o _)
  | push _ => exact hP.cpu (s.push16 _) _ _ _ (hP.push16 h _)
  | call _ | rst _ => exact hP.push16_setPc_cost h ..
  | callCond _ _ =>
    simp only [Machine.shapeRun, opCallCond]
    split
    · exact hP.push16_setPc_cost h ..
    · exact hP.cpu s _ _ _ h
  | pop _ =>
    rw [Machine.shapeRun, opPop_eq]
    exact hP.cpu s _ _ _ h
  | ret | reti => exact hP.cpu s.returnPop _ _ _ (hP.returnPop h)
  | retCond _ =>
    simp only [Machine.shapeRun, opRetCond]
    split
    · exact hP.cpu s.returnPop _ _ _ (hP.returnPop h)
    · exact hP.cpu s _ _ _ h

end InstrStable

/-! ## What no instruction touches (spec/63_ppu.md; log entry 7) -/

/-- `t` has the PPU's position and line state, the fetcher, the frames, the cycle counter and the environment's fields
of `s`. -/
structure State.SameVideo (s t : State) : Prop where
  ly : t.ppu.ly = s.ppu.ly
  mode : t.ppu.mode = s.ppu.mode
  lineDot : t.ppu.lineDot = s.ppu.lineDot
  windowLine : t.ppu.windowLine = s.ppu.windowLine
  windowUsed : t.ppu.windowUsed = s.ppu.windowUsed
  lycFlag : t.ppu.lycFlag = s.ppu.lycFlag
  lineSprites : t.ppu.lineSprites = s.ppu.lineSprites
  fetcher : t.fetcher = s.fetcher
  framebuf : t.framebuf = s.framebuf
  frames : t.frames = s.frames
  cycles : t.cycles = s.cycles
  extTurns : t.extTurns = s.extTurns
  extRequests : t.extRequests = s.extRequests

theorem State.SameVideo.refl (s : State) : s.SameVideo s :=
  ⟨rfl, rfl, rfl, rfl, rfl, rfl, rfl, rfl, rfl, rfl, rfl, rfl, rfl⟩

theorem State.SameVideo.busWrite {s t : State} (h : s.SameVideo t) (a : Word) (v : Byte) :
    s.SameVideo (t.busWrite a v) where
  ly := (t.busWrite_ppu_ly a v).trans h.ly
  mode := (t.busWrite_ppu_mode a v).trans h.mode
  lineDot := (t.busWrite_ppu_lineDot a v).trans h.lineDot
  windowLine := (t.busWrite_ppu_windowLine a v).trans h.windowLine
  windowUsed := (t.busWrite_ppu_windowUsed a v).trans h.windowUsed
  lycFlag := (t.busWrite_ppu_lycFlag a v).trans h.lycFlag
  lineSprites := (t.busWrite_ppu_lineSprites a v).trans h.lineSprites
  fetcher := (t.busWrite_fetcher a v).trans h.fetcher
  framebuf := (t.busWrite_framebuf a v).trans h.framebuf
  frames := (t.busWrite_frames a v).trans h.frames
  cycles := (t.busWrite_cycles a v).trans h.cycles
  extTurns := (t.busWrite_extTurns a v).trans h.extTurns
  extRequests := (t.busWrite_extRequests a v).trans h.extRequests

theorem State.SameVideo.stable (s : State) : InstrStable s.SameVideo where
  cpu _ _ _ _ h := ⟨h.ly, h.mode, h.lineDot, h.windowLine, h.windowUsed, h.lycFlag, h.lineSprites, h.fetcher,
    h.framebuf, h.frames, h.cycles, h.extTurns, h.extRequests⟩
  write _ a v h := h.busWrite a v

theorem shapeRun_sameVideo (sh : Shape) (s : State) : s.SameVideo (shapeRun sh s) :=
  (State.SameVideo.stable s).shapeRun (.refl s) sh

/-! ## The CPU's control state (rules R25 to R28 and R429) -/

/-- IME, the EI latch, `halted` and `fatal`. -/
structure Control where
  ime : Bool
  imePending : Bool
  halted : Bool
  fatal : Option FatalReason

/-- The control state in a CPU. -/
def Cpu.control (c : Cpu) : Control :=
  { ime := c.ime, imePending := c.imePending, halted := c.halted, fatal := c.fatal }

/-- The control state after an instruction whose opcode is at `pc`. -/
def controlAfter (pc : Word) (k : Control) : Shape → Control
  | .di => { k with ime := false, imePending := false }
  | .ei => { k with imePending := true }
  | .reti => { k with ime := true }
  | .halt => { k with halted := true }
  | .stop => { k with fatal := some (.stopUnmodelled pc) }
  | .illegal op => { k with fatal := some (.illegalOpcode op pc) }
  | _ => k

@[simp] theorem Cpu.setReg_control (c : Cpu) (r : Reg8) (v : Byte) : (c.setReg r v).control = c.control := by
  cases r <;> rfl

@[simp] theorem Cpu.setPair_control (c : Cpu) (p : Pair) (v : Word) : (c.setPair p v).control = c.control := by
  cases p <;> rfl

@[simp] theorem Cpu.setStackPair_control (c : Cpu) (p : StackPair) (v : Word) :
    (c.setStackPair p v).control = c.control := by
  cases p <;> rfl

theorem State.busWrite_control (s : State) (a : Word) (v : Byte) : (s.busWrite a v).cpu.control = s.cpu.control :=
  congrArg Cpu.control (s.busWrite_cpu a v)

theorem State.push16_control (s : State) (v : Word) : (s.push16 v).cpu.control = s.cpu.control :=
  (congrArg Cpu.control (s.push16_cpu v) :)

/-- The push and jump of a call. -/
theorem State.push16_setPc_control (s : State) (v a : Word) : ((s.push16 v).setPc a).cpu.control = s.cpu.control := by
  rw [State.setPc_cpu, State.push16_cpu]
  rfl

theorem State.returnPop_control (s : State) : s.returnPop.cpu.control = s.cpu.control := by
  rw [State.returnPop_eq]
  rfl

theorem State.writeLoc_control (s : State) (o : Loc8) (v : Byte) :
    ((s.noteLoc o).writeLoc o v).cpu.control = s.cpu.control := by
  cases o with
  | reg r => exact s.cpu.setReg_control r v
  | mem => exact (s.noteRead s.cpu.hl).busWrite_control s.cpu.hl v

/-- The operation of every shape leaves the control state that `controlAfter` names. -/
theorem shapeRun_control (sh : Shape) (s : State) :
    (shapeRun sh s).cpu.control = controlAfter (s.cpu.pc - 1) s.cpu.control sh := by
  cases sh with
  | nop | halt | stop | di | ei | illegal _ | ldSpHl | ldHlSpE8 _ | daa | cpl | scf | ccf | addHl _ | addSp _ | rotA _
  | jp _ | jpHl | jr _ | alu _ _ | bit _ _ =>
    rfl
  | ldRegReg _ _ | ldRegImm _ _ | ldRegHl _ | ldAInd _ | ldAHlStep _ | ldAAbs _ | ldhA _ | ldAHighC | incReg _
  | decReg _ =>
    exact s.cpu.setReg_control ..
  | ldPairImm _ _ | incPair _ | decPair _ => exact s.cpu.setPair_control ..
  | pop p =>
    rw [shapeRun, opPop_eq]
    exact Cpu.setStackPair_control _ p _
  | jpCond _ _ | jrCond _ _ =>
    simp only [shapeRun, opJpCond, opJrCond]
    split <;> rfl
  | ldHlReg _ | ldHlImm _ | ldHlStepA _ | ldIndA _ | ldAbsA _ | ldhStoreA _ | ldHighCA =>
    exact s.busWrite_control ..
  | ldAbsSp _ => exact (State.busWrite_control ..).trans (s.busWrite_control ..)
  | incMem | decMem => exact (s.noteRead s.cpu.hl).busWrite_control ..
  | rot _ o | res _ o | setBit _ o => exact s.writeLoc_control o _
  | push p => exact s.push16_control (s.cpu.stackPair p)
  | call _ | rst _ => exact s.push16_setPc_control s.cpu.pc _
  | callCond _ _ =>
    simp only [shapeRun, opCallCond]
    split
    · exact s.push16_setPc_control s.cpu.pc _
    · rfl
  | ret => exact s.returnPop_control
  | reti => exact congrArg (fun k : Control => { k with ime := true }) s.returnPop_control
  | retCond _ =>
    simp only [shapeRun, opRetCond]
    split
    · exact s.returnPop_control
    · rfl

section

variable (pc : Word) (k : Control) {sh : Shape}

theorem controlAfter_ime (hdi : sh ≠ .di) (hreti : sh ≠ .reti) : (controlAfter pc k sh).ime = k.ime := by
  unfold controlAfter
  split
  case h_1 | h_3 => contradiction
  all_goals rfl

theorem controlAfter_imePending (hdi : sh ≠ .di) (hei : sh ≠ .ei) :
    (controlAfter pc k sh).imePending = k.imePending := by
  unfold controlAfter
  split
  case h_1 | h_2 => contradiction
  all_goals rfl

theorem controlAfter_halted (hhalt : sh ≠ .halt) : (controlAfter pc k sh).halted = k.halted := by
  unfold controlAfter
  split
  case h_4 => contradiction
  all_goals rfl

theorem controlAfter_fatal (hstop : sh ≠ .stop) (hill : ∀ op, sh ≠ .illegal op) :
    (controlAfter pc k sh).fatal = k.fatal := by
  unfold controlAfter
  split
  case h_5 => contradiction
  case h_6 op => exact absurd rfl (hill op)
  all_goals rfl

end

/-- Settles O60: the CPU's control state is what `controlAfter` names, and no shape's operation reaches the rest. -/
theorem frameControl : Obligations.FrameControl := by
  intro i s t h
  rw [exec_eq] at h
  cases h
  have hc := shapeRun_control i.shape s
  obtain ⟨hly, hmode, hdot, hwl, hwu, hlyc, hls, hfetch, hfb, hfr, hcy, het, her⟩ := shapeRun_sameVideo i.shape s
  refine ⟨fun hdi hreti => ?ime, fun hdi hei => ?pending, fun hhalt => ?halted, fun hstop hwf => ?fatal, hly, hmode,
    hdot, hwl, hwu, hlyc, hls, hfetch, hfb, hfr, hcy, het, her⟩
  case ime => exact (congrArg Control.ime hc).trans (controlAfter_ime _ _ hdi hreti)
  case pending => exact (congrArg Control.imePending hc).trans (controlAfter_imePending _ _ hdi hei)
  case halted => exact (congrArg Control.halted hc).trans (controlAfter_halted _ _ hhalt)
  case fatal =>
    have hill : ∀ op, i.shape ≠ .illegal op := by
      intro op hop
      rw [wellFormed_eq_false_of_shape_illegal hop] at hwf
      cases hwf
    exact (congrArg Control.fatal hc).trans (controlAfter_fatal _ _ hstop hill)

end Sys2Proof.Machine

end

section

namespace Sys2Proof.Machine

/-! ## How long an instruction takes (rules R200 to R377) -/

theorem State.cost_bounds (s : State) {n : Nat} (h : 1 ≤ n ∧ n ≤ 6) :
    1 ≤ (s.cost n).mcycles ∧ (s.cost n).mcycles ≤ 6 := h

/-- An instruction that raises no Fatal costs 1 to 6 M-cycles. -/
theorem shapeRun_mcycles_bounds (sh : Shape) (s : State) (h : (shapeRun sh s).cpu.fatal = none) :
    1 ≤ (shapeRun sh s).mcycles ∧ (shapeRun sh s).mcycles ≤ 6 := by
  cases sh with
  | stop | illegal _ => cases h
  | alu _ o => cases o <;> exact State.cost_bounds _ (by simp [aluCost])
  | bit _ o => cases o <;> exact State.cost_bounds _ (by simp [bitCost])
  | rot _ o | res _ o | setBit _ o => cases o <;> exact State.cost_bounds _ (by simp [cbCost])
  | jpCond _ _ | jrCond _ _ | callCond _ _ | retCond _ =>
    simp only [shapeRun, opJpCond, opJrCond, opCallCond, opRetCond]
    split <;> exact State.cost_bounds _ (by decide)
  | _ => exact State.cost_bounds _ (by decide)

/-- An instruction that raises Fatal leaves the cost alone, and none does from a latch already set. -/
theorem shapeRun_mcycles_of_fatal (sh : Shape) (s : State) (hs : s.cpu.fatal = none)
    (h : (shapeRun sh s).cpu.fatal ≠ none) : (shapeRun sh s).mcycles = s.mcycles := by
  by_cases hstop : sh = .stop
  · subst hstop
    rfl
  by_cases hill : ∃ op, sh = .illegal op
  · obtain ⟨op, rfl⟩ := hill
    rfl
  · refine absurd ?_ h
    rw [← hs]
    exact (congrArg Control.fatal (shapeRun_control sh s)).trans
      (controlAfter_fatal _ _ hstop fun op hop => hill ⟨op, hop⟩)

/-! ## How long a step takes (rules R400 to R402) -/

theorem State.dispatchCheck_cycles (s : State) :
    s.dispatchCheck.cycles = s.cycles ∨ s.dispatchCheck.cycles = s.cycles + 4 * 5 := by
  cases h : s.irq.lowestSource with
  | none => exact .inl (congrArg State.cycles (State.dispatchCheck_of_none h))
  | some i =>
    rw [State.dispatchCheck_of_lowest h, State.advance_cycles, State.takeInterrupt_cycles]
    exact .inr rfl

theorem State.dispatchCheck_fatal (s : State) : s.dispatchCheck.cpu.fatal = s.cpu.fatal := by
  cases h : s.irq.lowestSource with
  | none => rw [State.dispatchCheck_of_none h]
  | some i => rw [State.dispatchCheck_of_lowest h, State.advance_cpu, State.takeInterrupt_cpu]

theorem State.finishStep_cycles (s : State) :
    s.finishStep.cycles = s.cycles ∨ s.finishStep.cycles = s.cycles + 4 * 5 := by
  have hlatch (t : State) : t.latchTurn.cycles = t.cycles := by
    unfold State.latchTurn
    split <;> rfl
  rw [State.finishStep, hlatch, State.imeTurn]
  split
  · exact s.dispatchCheck_cycles
  · exact .inl rfl

theorem State.finishStep_fatal (s : State) : s.finishStep.cpu.fatal = s.cpu.fatal := by
  have hlatch (t : State) : t.latchTurn.cpu.fatal = t.cpu.fatal := by
    unfold State.latchTurn
    split <;> rfl
  rw [State.finishStep, hlatch, State.imeTurn]
  split
  · exact s.dispatchCheck_fatal
  · rfl

theorem State.afterInstr_of_fatal {s : State} (h : s.cpu.fatal ≠ none) : s.afterInstr = s :=
  if_pos (Option.isSome_iff_ne_none.mpr h)

theorem State.afterInstr_of_not_fatal {s : State} (h : s.cpu.fatal = none) :
    s.afterInstr = (State.advance s.mcycles { s with mcycles := 0 }).finishStep :=
  if_neg (by simp [h])

theorem State.afterInstr_fatal (s : State) : s.afterInstr.cpu.fatal = s.cpu.fatal := by
  by_cases h : s.cpu.fatal = none
  · rw [State.afterInstr_of_not_fatal h, State.finishStep_fatal, State.advance_cpu]
  · rw [State.afterInstr_of_fatal h]

theorem State.wake_cycles (s : State) : s.wake.cycles = s.cycles := by rw [State.wake_eq]

theorem State.wake_fatal (s : State) : s.wake.cpu.fatal = s.cpu.fatal := by rw [State.wake_eq]

/-- The fetch and the operation take no time themselves. -/
theorem State.executed_cycles (s : State) : s.executed.cycles = s.cycles := by
  rw [State.executed, (shapeRun_sameVideo _ _).cycles, State.fetchInstr_eq]

/-- A part of a step that took `m` M-cycles, and the dispatch that may follow it. -/
theorem stepTime_of_finishStep {s u : State} {m : Nat} (hm : 1 ≤ m ∧ m ≤ 6) (hu : u.cycles = s.cycles + 4 * m) :
    ∃ k, 1 ≤ k ∧ k ≤ 11 ∧ u.finishStep.cycles = s.cycles + 4 * k := by
  obtain h | h := u.finishStep_cycles
  · exact ⟨m, by omega, by omega, h.trans hu⟩
  · exact ⟨m + 5, by omega, by omega, by omega⟩

/-- Settles O8: a halted step advances one M-cycle, an instruction its cost, and a dispatch five. -/
theorem stepTime : Obligations.StepTime := by
  intro s hf
  cases hh : s.cpu.halted with
  | true =>
    refine ⟨_, step_of_halted hf hh, fun _ => ?_, fun hfatal => absurd ?_ hfatal⟩
    · refine stepTime_of_finishStep (m := 1) (by decide) ?_
      rw [State.haltedStep, State.wake_cycles, State.advance_cycles, State.extTurn_cycles]
    · rw [State.finishStep_fatal, State.haltedStep, State.wake_fatal, State.advance_cpu]
      exact hf
  | false =>
    refine ⟨_, step_of_running hf hh, ?_⟩
    rw [State.afterInstr_fatal]
    refine ⟨fun hnone => ?_, fun hfatal => ?_⟩
    · rw [State.afterInstr_of_not_fatal hnone]
      refine stepTime_of_finishStep (shapeRun_mcycles_bounds _ _ hnone) ?_
      rw [State.advance_cycles]
      exact congrArg (· + _) s.extTurn.executed_cycles
    · rw [State.afterInstr_of_fatal hfatal]
      exact s.extTurn.executed_cycles

/-! ## EI and DI (rules R374, R375, R429) -/

/-- An opcode that is a whole instruction. -/
theorem State.executed_of_opcode {s : State} {op : Byte} (h : s.busRead s.cpu.pc = op) (hlen : fetchLength op = 1) :
    s.executed = shapeRun (decodeBytes op 0 0).shape { s with
      cpu := { s.cpu with pc := s.cpu.pc + 1 }, extReads := s.extReads + extAnswers s.cpu.pc } := by
  rw [State.executed, State.fetchInstr, State.fetch_of_length_one (by rw [h, hlen]), h]

/-- With IME = 0 and the latch set, steps (3) and (4) move the latch and dispatch nothing. -/
theorem State.finishStep_of_pending {s : State} (hime : s.cpu.ime = false) (hp : s.cpu.imePending = true) :
    s.finishStep = { s with cpu := { s.cpu with ime := true, imePending := false } } := by
  rw [State.finishStep, State.imeTurn_of_ime_clear hime]
  exact if_pos hp

/-- With IME = 0 and the latch clear, steps (3) and (4) do nothing. -/
theorem State.finishStep_of_clear {s : State} (hime : s.cpu.ime = false) (hp : s.cpu.imePending = false) :
    s.finishStep = s := by
  rw [State.finishStep, State.imeTurn_of_ime_clear hime]
  exact if_neg (by simp [hp])

theorem State.afterInstr_opEi {s : State} (hf : s.cpu.fatal = none) (hime : s.cpu.ime = false) :
    (opEi s).afterInstr.cpu = { s.cpu with ime := true, imePending := false } ∧
      (opEi s).afterInstr.cycles = s.cycles + 4 := by
  rw [State.afterInstr_of_not_fatal (s := opEi s) hf,
    State.finishStep_of_pending (by rw [State.advance_cpu]; exact hime) (by rw [State.advance_cpu]; rfl)]
  exact ⟨congrArg (fun c : Cpu => { c with ime := true, imePending := false }) (State.advance_cpu ..),
    State.advance_cycles ..⟩

theorem State.afterInstr_opDi {s : State} (hf : s.cpu.fatal = none) :
    (opDi s).afterInstr.cpu = { s.cpu with ime := false, imePending := false } ∧
      (opDi s).afterInstr.cycles = s.cycles + 4 := by
  rw [State.afterInstr_of_not_fatal (s := opDi s) hf,
    State.finishStep_of_clear (by rw [State.advance_cpu]; rfl) (by rw [State.advance_cpu]; rfl)]
  exact ⟨State.advance_cpu .., State.advance_cycles ..⟩

/-- Settles O14: after either opcode IME is clear, so no dispatch is looked for; the latch that EI set moves. -/
theorem eiDiLatency : Obligations.EiDiLatency := by
  refine ⟨fun s hf hh hime hop => ⟨_, step_of_running hf hh, ?ei⟩,
    fun s hf hh hop => ⟨_, step_of_running hf hh, ?di⟩⟩
  case ei =>
    rw [State.executed_of_opcode hop (by decide)]
    exact State.afterInstr_opEi hf hime
  case di =>
    rw [State.executed_of_opcode hop (by decide)]
    exact State.afterInstr_opDi hf

end Sys2Proof.Machine

end

section

namespace Sys2Proof.Machine

/-! ## The divider's edge on numbers (rules R461 and R465) -/

/-- The divider bit that `tac` selects, as a number. -/
def tapIndex (tac : Nat) : Nat := [9, 3, 5, 7].getD (tac % 4) 0

theorem tapIndex_cases (n : Nat) : tapIndex n = 9 ∨ tapIndex n = 3 ∨ tapIndex n = 5 ∨ tapIndex n = 7 := by
  unfold tapIndex
  have : n % 4 < 4 := Nat.mod_lt n (by decide)
  interval_cases n % 4 <;> decide

theorem Timer.tapBit_eq (t : Timer) : t.tapBit = tapIndex t.tac.toNat := by
  unfold Timer.tapBit
  generalize t.tac = c
  revert c
  decide

theorem Timer.enabled_iff (t : Timer) : t.enabled = true ↔ 4 ≤ t.tac.toNat := by
  unfold Timer.enabled
  generalize t.tac = c
  revert c
  decide

theorem getLsbD_iff_div_mod {w : Nat} (v : BitVec w) (b : Nat) : v.getLsbD b = true ↔ v.toNat / 2 ^ b % 2 = 1 := by
  rw [BitVec.getLsbD, Nat.testBit_eq_decide_div_mod_eq, decide_eq_true_eq]

theorem Timer.edge_iff (t : Timer) : t.edge = true ↔ 4 ≤ t.tac.toNat ∧
    t.div16.toNat / 2 ^ tapIndex t.tac.toNat % 2 = 1 ∧
    (t.div16.toNat + 1) % 2 ^ 16 / 2 ^ tapIndex t.tac.toNat % 2 = 0 := by
  have hsucc : (t.div16 + 1).toNat = (t.div16.toNat + 1) % 2 ^ 16 := BitVec.toNat_add ..
  rw [Timer.edge, Bool.and_eq_true, Bool.and_eq_true, Timer.enabled_iff, Bool.not_eq_true', ← Bool.not_eq_true,
    getLsbD_iff_div_mod, getLsbD_iff_div_mod, hsucc, ← ne_eq, Nat.mod_two_ne_one, Timer.tapBit_eq, and_assoc]

/-! ## One tick (rules R461 and R463) -/

theorem State.timerTick_of_no_edge {s : State} (h : ¬ s.timer.edge = true) :
    s.timerTick = { s with timer := { s.timer with div16 := s.timer.div16 + 1 } } :=
  if_neg h

theorem State.timerTick_of_edge {s : State} (h : s.timer.edge = true) (hff : s.timer.tima ≠ 0xFF) :
    s.timerTick = { s with timer := { s.timer with div16 := s.timer.div16 + 1, tima := s.timer.tima + 1 } } := by
  have hne : ¬ s.timer.tima + 1 = 0 := by bv_omega
  exact (if_pos h).trans (if_neg hne)

theorem State.timerTick_of_overflow {s : State} (h : s.timer.edge = true) (hff : s.timer.tima = 0xFF) :
    s.timerTick = { s with
      timer := { s.timer with div16 := s.timer.div16 + 1, tima := s.timer.tma }
      irq := { s.irq with req := s.irq.req ||| 0b00100 } } := by
  have hzero : s.timer.tima + 1 = 0 := by rw [hff]; rfl
  exact (if_pos h).trans (if_pos hzero)

/-- Settles O15: the three branches of the tick, with the edge on numbers. -/
theorem timerTick : Obligations.TimerTick := by
  intro s bit d edge
  have hedge : s.timer.edge = true ↔ edge := s.timer.edge_iff
  rw [← hedge]
  exact ⟨State.timerTick_of_no_edge, State.timerTick_of_edge, State.timerTick_of_overflow⟩

/-! ## Many ticks (rules R461 and R465) -/

/-- The monitored bit falls exactly when the divider ends a period of that bit. -/
theorem falling_iff_end_of_period {d b : Nat} (hb : b = 9 ∨ b = 3 ∨ b = 5 ∨ b = 7) :
    (d / 2 ^ b % 2 = 1 ∧ (d + 1) % 2 ^ 16 / 2 ^ b % 2 = 0) ↔ 2 ^ (b + 1) ∣ d + 1 := by
  obtain rfl | rfl | rfl | rfl := hb <;> omega

/-- The state after `n` ticks in which TIMA made `k` increments. -/
def State.ticked (s : State) (n k : Nat) : State :=
  { s with timer := { s.timer with
    div16 := s.timer.div16 + BitVec.ofNat 16 n, tima := s.timer.tima + BitVec.ofNat 8 k } }

theorem State.ticked_no_increment (s : State) (n : Nat) :
    s.ticked n 0 = { s with timer := { s.timer with div16 := s.timer.div16 + BitVec.ofNat 16 n } } := by
  rw [State.ticked, BitVec.add_zero]

theorem bitVec_add_ofNat_succ {w : Nat} (v : BitVec w) (n : Nat) :
    v + BitVec.ofNat w n + 1 = v + BitVec.ofNat w (n + 1) := by
  rw [BitVec.add_assoc, BitVec.ofNat_add]
  rfl

/-- The divider ends a period at tick `n` exactly when the count from its phase does. -/
theorem dvd_div16_succ_iff (d : Word) (n b : Nat) (hb : b = 9 ∨ b = 3 ∨ b = 5 ∨ b = 7) :
    2 ^ (b + 1) ∣ (d + BitVec.ofNat 16 n).toNat + 1 ↔ 2 ^ (b + 1) ∣ d.toNat % 2 ^ (b + 1) + n + 1 := by
  rw [BitVec.toNat_add, BitVec.toNat_ofNat]
  obtain rfl | rfl | rfl | rfl := hb <;> omega

theorem byte_add_ofNat_ne_ff {v : Byte} {k : Nat} (h : v.toNat + (k + 1) < 256) : v + BitVec.ofNat 8 k ≠ 0xFF := by
  intro hff
  have htoNat : (v + BitVec.ofNat 8 k).toNat = 255 := congrArg BitVec.toNat hff
  rw [BitVec.toNat_add, BitVec.toNat_ofNat] at htoNat
  omega

/-- The next tick after `n`, while TIMA does not overflow. -/
theorem State.timerTick_ticked {s : State} {n : Nat} (hen : 4 ≤ s.timer.tac.toNat) :
    let period := 2 ^ (tapIndex s.timer.tac.toNat + 1)
    let phase := s.timer.div16.toNat % period
    s.timer.tima.toNat + (phase + (n + 1)) / period < 256 →
    (s.ticked n ((phase + n) / period)).timerTick = s.ticked (n + 1) ((phase + (n + 1)) / period) := by
  intro period phase hlt
  have hsucc : (phase + (n + 1)) / period = (phase + n) / period + if period ∣ phase + n + 1 then 1 else 0 :=
    Nat.succ_div
  have hb := tapIndex_cases s.timer.tac.toNat
  have hedge : (s.ticked n ((phase + n) / period)).timer.edge = true ↔ period ∣ phase + n + 1 := by
    rw [Timer.edge_iff, ← dvd_div16_succ_iff _ n _ hb, ← falling_iff_end_of_period hb]
    exact and_iff_right hen
  rw [hsucc] at hlt ⊢
  by_cases hend : period ∣ phase + n + 1
  · rw [if_pos hend] at hlt ⊢
    have hff : (s.ticked n ((phase + n) / period)).timer.tima ≠ 0xFF := byte_add_ofNat_ne_ff hlt
    rw [State.timerTick_of_edge (hedge.mpr hend) hff]
    simp only [State.ticked, bitVec_add_ofNat_succ]
  · rw [if_neg hend, State.timerTick_of_no_edge (mt hedge.mp hend)]
    simp only [State.ticked, bitVec_add_ofNat_succ, Nat.add_zero]

theorem State.timerTick_iterate {s : State} (hen : 4 ≤ s.timer.tac.toNat) (n : Nat) :
    let period := 2 ^ (tapIndex s.timer.tac.toNat + 1)
    let phase := s.timer.div16.toNat % period
    s.timer.tima.toNat + (phase + n) / period < 256 →
    State.timerTick^[n] s = s.ticked n ((phase + n) / period) := by
  intro period phase
  induction n with
  | zero =>
    intro _
    have hphase : (phase + 0) / period = 0 := Nat.div_eq_of_lt (Nat.mod_lt _ (Nat.two_pow_pos _))
    rw [hphase, State.ticked_no_increment, BitVec.add_zero]
    rfl
  | succ n ih =>
    intro hlt
    have hmono : (phase + n) / period ≤ (phase + (n + 1)) / period := Nat.div_le_div_right (by omega)
    rw [Function.iterate_succ_apply', ih (by omega)]
    exact State.timerTick_ticked hen hlt

theorem State.timerTick_iterate_disabled {s : State} (hdis : s.timer.tac.toNat < 4) (n : Nat) :
    State.timerTick^[n] s = s.ticked n 0 := by
  induction n with
  | zero =>
    rw [State.ticked_no_increment, BitVec.add_zero]
    rfl
  | succ n ih =>
    have hno : ¬ (s.ticked n 0).timer.edge = true := by
      rw [Timer.edge_iff]
      rintro ⟨hen, -⟩
      exact Nat.not_le.mpr hdis hen
    rw [Function.iterate_succ_apply', ih, State.timerTick_of_no_edge hno]
    simp only [State.ticked, bitVec_add_ofNat_succ]

/-- Settles O16: by induction on the ticks; TIMA counts at the ends of the selected bit's periods. -/
theorem timerRate : Obligations.TimerRate := by
  refine ⟨fun s n hen => State.timerTick_iterate hen n, fun s n hdis => ?_⟩
  rw [State.timerTick_iterate_disabled hdis, State.ticked_no_increment]

end Sys2Proof.Machine

end

section

namespace Sys2Proof.Machine

/-! ## One DMA tick (rules R481 to R484) -/

theorem State.dmaTick_of_idle {s : State} (h : s.dma.state = .idle) : s.dmaTick = s := by
  rw [State.dmaTick, h]

theorem State.dmaTick_of_startDelay {s : State} (h : s.dma.state = .startDelay) : s.dmaTick = { s with
    dma := { s.dma with
      delay := s.dma.delay - 1, state := if s.dma.delay - 1 = 0 then .transfer else .startDelay } } := by
  rw [State.dmaTick, h]

theorem State.dmaTick_of_transfer {s : State} (h : s.dma.state = .transfer) : s.dmaTick = { s with
    mem := sparseInsert s.mem (0xFE00 + s.dma.index) (s.busRead s.dma.source)
    extReads := s.extReads + extAnswers s.dma.source
    dma := { s.dma with
      index := s.dma.index + 1, state := if s.dma.index + 1 = 160 then .idle else .transfer } } := by
  rw [State.dmaTick, h]
  rfl

theorem State.busWrite_dma_trigger (s : State) (page : Byte) :
    s.busWrite 0xFF46 page = { s with dma := { state := .startDelay, delay := 2, index := 0, page := page } } := rfl

/-! ## A transfer from its trigger on (rules R481 to R484) -/

/-- The bus address of byte `i` of a page. -/
def pageByte (page : Byte) (i : Nat) : Word := BitVec.ofNat 16 (page.toNat * 256 + i)

/-- `t` is `s` after the first `i` bytes of a transfer from `page`. -/
structure State.Copied (s : State) (page : Byte) (i : Nat) (t : State) : Prop where
  dma : t.dma = { state := if i = 160 then .idle else .transfer, delay := 0, index := i, page := page }
  cart : t.cart = s.cart
  copied : page.toNat < 0xFE → ∀ j, j < i → t.mem.byteAt (0xFE00 + j) = s.busRead (pageByte page j)
  other : ∀ n, ¬ (0xFE00 ≤ n ∧ n < 0xFEA0) → t.mem.byteAt n = s.mem.byteAt n

theorem pageByte_toNat (page : Byte) {i : Nat} (hi : i < 256) : (pageByte page i).toNat = page.toNat * 256 + i := by
  have := page.isLt
  rw [pageByte, BitVec.toNat_ofNat]
  omega

/-- Below OAM a read gives what the memories and the cartridge hold. -/
theorem State.busRead_congr_below_oam {s t : State} {a : Word} (ha : a.toNat < 0xFE00) (hcart : t.cart = s.cart)
    (hmem : t.mem.byteAt a.toNat = s.mem.byteAt a.toNat) : t.busRead a = s.busRead a := by
  have hr := region_spec a
  unfold State.busRead
  cases h : region a with
  | rom | cartRam => simp only [hcart]
  | vram | wram => simp only [hmem]
  | echo => rfl
  | oam | unusable | io | hram | ie =>
    simp only [h, reduceCtorEq, false_and, false_or, or_false, true_and] at hr
    omega

theorem State.copied_zero (s : State) (page : Byte) :
    State.Copied s page 0 (State.dmaTick^[2] (s.busWrite 0xFF46 page)) :=
  ⟨rfl, rfl, fun _ _ h => absurd h (Nat.not_lt_zero _), fun _ _ => rfl⟩

/-- One more byte. -/
theorem State.Copied.dmaTick {s t : State} {page : Byte} {i : Nat} (h : State.Copied s page i t) (hi : i < 160) :
    State.Copied s page (i + 1) t.dmaTick := by
  have hstate : t.dma.state = .transfer := by
    rw [h.dma, if_neg (by omega)]
  have hindex : t.dma.index = i := by rw [h.dma]
  have hsource : t.dma.source = pageByte page i := by rw [h.dma]; rfl
  rw [State.dmaTick_of_transfer hstate, hindex, hsource]
  refine ⟨by rw [h.dma], h.cart, fun hpage j hj => ?_, fun n hn => ?_⟩
  · by_cases hji : j = i
    · subst hji
      have haddr := pageByte_toNat page (i := j) (by omega)
      have hread : t.busRead (pageByte page j) = s.busRead (pageByte page j) :=
        State.busRead_congr_below_oam (by omega) h.cart (h.other _ (by omega))
      rw [← hread]
      exact Memory.byteAt_insert_same ..
    · exact (Memory.byteAt_insert_other _ _ (by omega)).trans (h.copied hpage j (by omega))
  · exact (Memory.byteAt_insert_other _ _ (by omega)).trans (h.other n hn)

theorem State.copied_iterate (s : State) (page : Byte) {i : Nat} (hi : i ≤ 160) :
    State.Copied s page i (State.dmaTick^[i + 2] (s.busWrite 0xFF46 page)) := by
  induction i with
  | zero => exact s.copied_zero page
  | succ i ih =>
    rw [show i + 1 + 2 = i + 2 + 1 from rfl, Function.iterate_succ_apply']
    exact (ih (by omega)).dmaTick (by omega)

/-- Settles O17: the three branches of the tick; a transfer's state is read off the bytes copied. -/
theorem dmaTick : Obligations.DmaTick := by
  refine ⟨fun s h => State.dmaTick_of_idle h, fun s h => ?delay, fun s h _ => ?transfer, fun s page => ?busy⟩
  case delay =>
    have hle : s.dma.delay ≤ 1 ↔ s.dma.delay - 1 = 0 := by omega
    rw [State.dmaTick_of_startDelay h]
    simp only [hle]
  case transfer =>
    have hlast : s.dma.index = 159 ↔ s.dma.index + 1 = 160 := by omega
    rw [State.dmaTick_of_transfer h]
    simp only [hlast]
    rfl
  case busy =>
    have hstate (n i : Nat) (hn : n = i + 2) (hi : i ≤ 160) :
        (State.dmaTick^[n] (s.busWrite 0xFF46 page)).dma.state = if i = 160 then .idle else .transfer := by
      rw [hn, (s.copied_iterate page hi).dma]
    exact ⟨hstate 2 0 rfl (by decide), hstate 161 159 rfl (by decide), hstate 162 160 rfl (by decide)⟩

/-- Settles O18: after 162 ticks all 160 bytes are copied. -/
theorem dmaTransfer : Obligations.DmaTransfer := by
  intro s page t
  have ⟨hdma, _, hcopied, hother⟩ : State.Copied s page 160 t := s.copied_iterate page (Nat.le_refl 160)
  exact ⟨hdma, hcopied, hother⟩

end Sys2Proof.Machine

end

section

namespace Sys2Proof.Machine

/-! ## Requests and the line counter (rules R510, R512 to R515) -/

theorem req_or_zero (q : BitVec 5) : q ||| 0 = q := BitVec.or_zero

theorem State.requestStat_eq (s : State) (n : Nat) : s.requestStat n = { s with
    irq := { s.irq with req := s.irq.req ||| (if s.ppu.statBit n then 0b00010 else 0) } } := by
  unfold State.requestStat
  split
  · rfl
  · rw [req_or_zero]

theorem State.compareLyc_eq (s : State) : s.compareLyc = { s with
    ppu := { s.ppu with lycFlag := decide (s.ppu.ly = s.ppu.lyc) }
    irq := { s.irq with
      req := s.irq.req ||| (if s.ppu.ly = s.ppu.lyc ∧ s.ppu.statSel.getLsbD 3 = true then 0b00010 else 0) } } := by
  unfold State.compareLyc
  split
  next h =>
    rw [State.requestStat_eq]
    simp only [h, true_and, decide_true]
    rfl
  next h =>
    simp only [h, false_and, decide_false, if_false, req_or_zero]

theorem byte_add_one_toNat {v : Byte} {n : Nat} (h : v.toNat < n) (hn : n < 256) : (v + 1).toNat = v.toNat + 1 := by
  rw [BitVec.toNat_add]
  show (v.toNat + 1) % 256 = v.toNat + 1
  omega

theorem State.incrementLy_of_lt {s : State} (h : s.ppu.ly.toNat < 153) : s.incrementLy = { s with
    ppu := { s.ppu with
      ly := s.ppu.ly + 1, windowLine := s.ppu.nextWindowLine, windowUsed := false
      lycFlag := decide (s.ppu.ly + 1 = s.ppu.lyc) }
    irq := { s.irq with
      req := s.irq.req ||| (if s.ppu.ly + 1 = s.ppu.lyc ∧ s.ppu.statSel.getLsbD 3 = true then 0b00010 else 0) } } := by
  have hlt : ¬ 154 ≤ (s.ppu.ly + 1).toNat := by
    rw [byte_add_one_toNat h (by decide)]
    omega
  rw [State.incrementLy, State.advanceLy, if_neg hlt, State.compareLyc_eq]

theorem State.incrementLy_of_last {s : State} (h : s.ppu.ly.toNat = 153) : s.incrementLy = { s with
    ppu := { s.ppu with
      ly := 0, windowLine := 0, windowUsed := false, mode := .oamScan, lycFlag := decide (0 = s.ppu.lyc) }
    irq := { s.irq with
      req := s.irq.req ||| (if 0 = s.ppu.lyc ∧ s.ppu.statSel.getLsbD 3 = true then 0b00010 else 0) }
    frames := s.frames ++ [s.framebuf] } := by
  have hge : 154 ≤ (s.ppu.ly + 1).toNat := by
    rw [byte_add_one_toNat (n := 154) (by omega) (by decide)]
    omega
  rw [State.incrementLy, State.advanceLy, if_pos hge, State.compareLyc_eq]
  rfl

/-! ## The dot outside Draw (rules R501, R507 to R511) -/

theorem State.oamScanDot_within {s : State} (h : s.ppu.lineDot ≠ 79) :
    s.oamScanDot = { s with ppu := { s.ppu with lineDot := s.ppu.lineDot + 1 } } := by
  rw [State.oamScanDot, if_neg h]

theorem State.oamScanDot_last {s : State} (h : s.ppu.lineDot = 79) : s.oamScanDot = { s with
    ppu := { s.ppu with
      lineSprites := sortByX s.selected, windowUsed := false, mode := .draw, lineDot := s.ppu.lineDot + 1 }
    fetcher := Fetcher.cleared } := by
  rw [State.oamScanDot, if_pos h]
  rfl

theorem State.hblankDot_within {s : State} (h : s.ppu.lineDot < 455) :
    s.hblankDot = { s with ppu := { s.ppu with lineDot := s.ppu.lineDot + 1 } } :=
  if_neg (by omega)

/-- The end of a visible line, with the requests of the LYC match and of VBlank (rules R509, R510, R512, R513). -/
theorem State.hblankDot_last {s : State} (h : s.ppu.lineDot = 455) (hly : s.ppu.ly.toNat < 144) :
    s.hblankDot = { s with
    ppu := { s.ppu with
      lineDot := 0, ly := s.ppu.ly + 1, windowLine := s.ppu.nextWindowLine, windowUsed := false
      lycFlag := decide (s.ppu.ly + 1 = s.ppu.lyc), mode := if s.ppu.ly.toNat = 143 then .vblank else .oamScan }
    irq := { s.irq with
      req := s.irq.req ||| (if s.ppu.ly + 1 = s.ppu.lyc ∧ s.ppu.statSel.getLsbD 3 = true then 0b00010 else 0) |||
        (if s.ppu.ly.toNat = 143 then 0b00001 else 0) |||
        (if s.ppu.ly.toNat = 143 ∧ s.ppu.statSel.getLsbD 1 = true then 0b00010 else 0) } } := by
  have hinc := State.incrementLy_of_lt (s := { s with ppu := { s.ppu with lineDot := 0 } })
    (h := Nat.lt_trans hly (by decide))
  have h144 : s.ppu.ly + 1 = 144 ↔ s.ppu.ly.toNat = 143 := by
    rw [← BitVec.toNat_inj, byte_add_one_toNat hly (by decide)]
    show _ = 144 ↔ _
    omega
  have hend : s.ppu.lineDot + 1 = 456 := by omega
  simp only [State.hblankDot, if_pos hend, hinc, h144]
  split
  next hvb =>
    rw [State.enterVBlank, State.requestStat_eq]
    simp only [hvb, true_and]
    rfl
  next hvb =>
    simp only [hvb, false_and, if_false, req_or_zero]
    rfl

theorem State.vblankDot_within {s : State} (h : s.ppu.lineDot < 455) :
    s.vblankDot = { s with ppu := { s.ppu with lineDot := s.ppu.lineDot + 1 } } :=
  if_neg (by omega)

theorem State.vblankDot_line_end {s : State} (h : s.ppu.lineDot = 455) (hly : s.ppu.ly.toNat < 153) :
    s.vblankDot = { s with
      ppu := { s.ppu with
        lineDot := 0, ly := s.ppu.ly + 1, windowLine := s.ppu.nextWindowLine, windowUsed := false
        lycFlag := decide (s.ppu.ly + 1 = s.ppu.lyc) }
      irq := { s.irq with
        req := s.irq.req ||| (if s.ppu.ly + 1 = s.ppu.lyc ∧ s.ppu.statSel.getLsbD 3 = true then 0b00010 else 0) } } :=
  (if_pos (congrArg (· + 1) h)).trans (State.incrementLy_of_lt (s := { s with ppu := { s.ppu with lineDot := 0 } }) hly)

theorem State.vblankDot_frame_end {s : State} (h : s.ppu.lineDot = 455) (hly : s.ppu.ly.toNat = 153) :
    s.vblankDot = { s with
      ppu := { s.ppu with
        lineDot := 0, ly := 0, windowLine := 0, windowUsed := false, mode := .oamScan
        lycFlag := decide (0 = s.ppu.lyc) }
      irq := { s.irq with
        req := s.irq.req ||| (if 0 = s.ppu.lyc ∧ s.ppu.statSel.getLsbD 3 = true then 0b00010 else 0) }
      frames := s.frames ++ [s.framebuf] } :=
  (if_pos (congrArg (· + 1) h)).trans
    (State.incrementLy_of_last (s := { s with ppu := { s.ppu with lineDot := 0 } }) hly)

/-- Two reasons for an LCDSTAT request are one request; it does not matter that VBlank's comes between. -/
theorem or_stat_around_vblank (req vblank : BitVec 5) (p q : Prop) [Decidable p] [Decidable q] :
    req ||| (if p then 0b00010 else 0) ||| vblank ||| (if q then 0b00010 else 0) =
      req ||| vblank ||| (if p ∨ q then 0b00010 else 0) := by
  have hpq : (if p then 0b00010 else 0 : BitVec 5) ||| (if q then 0b00010 else 0) = if p ∨ q then 0b00010 else 0 := by
    by_cases p <;> by_cases q <;> simp [*]
  rw [BitVec.or_assoc req, BitVec.or_comm _ vblank, ← BitVec.or_assoc, BitVec.or_assoc, hpq]

/-- Settles O21: the requests of `hblankDot`, put together. -/
theorem vblankEntry : Obligations.VBlankEntry := by
  intro s hmode hdot hly vb lyc
  have htick : s.ppuTick = s.hblankDot := by rw [State.ppuTick, hmode]
  rw [htick, State.hblankDot_last hdot hly]
  refine ⟨rfl, rfl, rfl, ?_⟩
  exact or_stat_around_vblank ..

end Sys2Proof.Machine

end

section

namespace Sys2Proof.Machine

/-! ## Sprite selection (rule R508) -/

/-- `insertByX` and `sortByX` are the library's insertion sort by x. -/
theorem insertByX_eq (e : OamEntry) (l : List OamEntry) :
    insertByX e l = l.orderedInsert (fun e g => e.x.toNat ≤ g.x.toNat) e := by
  induction l with
  | nil => rfl
  | cons g l ih => rw [insertByX, ih, List.orderedInsert_cons]

theorem sortByX_eq (l : List OamEntry) : sortByX l = l.insertionSort fun e g => e.x.toNat ≤ g.x.toNat := by
  induction l with
  | nil => rfl
  | cons e l ih =>
    rw [List.insertionSort_cons, ← ih, ← insertByX_eq]
    rfl

theorem sortByX_perm (l : List OamEntry) : (sortByX l).Perm l := by
  rw [sortByX_eq]
  exact List.perm_insertionSort ..

theorem sortByX_pairwise (l : List OamEntry) : (sortByX l).Pairwise fun e g => e.x.toNat ≤ g.x.toNat := by
  rw [sortByX_eq]
  have : Std.Total fun e g : OamEntry => e.x.toNat ≤ g.x.toNat := ⟨fun _ _ => Nat.le_total _ _⟩
  have : IsTrans OamEntry fun e g => e.x.toNat ≤ g.x.toNat := ⟨fun _ _ _ => Nat.le_trans⟩
  exact List.pairwise_insertionSort ..

/-- An entry is inserted before all entries of its x: those it passes have a smaller one. -/
theorem filter_insertByX (e : OamEntry) (l : List OamEntry) (x : Byte) :
    (insertByX e l).filter (fun g => decide (g.x = x)) = (e :: l).filter fun g => decide (g.x = x) := by
  induction l with
  | nil => rfl
  | cons g l ih =>
    rw [insertByX]
    split
    · rfl
    next hlt =>
      have hne : ¬ (e.x = x ∧ g.x = x) := by
        rintro ⟨rfl, hg⟩
        exact hlt (by rw [hg])
      rw [List.filter_cons, ih]
      by_cases he : e.x = x
      · have hg : ¬ g.x = x := fun hg => hne ⟨he, hg⟩
        simp [he, hg]
      · simp [he, List.filter_cons]

/-- The sort is stable. -/
theorem filter_sortByX (l : List OamEntry) (x : Byte) :
    (sortByX l).filter (fun g => decide (g.x = x)) = l.filter fun g => decide (g.x = x) := by
  induction l with
  | nil => rfl
  | cons e l ih =>
    show (insertByX e (sortByX l)).filter _ = _
    rw [filter_insertByX, List.filter_cons, List.filter_cons, ih]

theorem State.selected_length_le (s : State) : s.selected.length ≤ 10 := List.length_take_le ..

theorem sortByX_selected_length_le (s : State) : (sortByX s.selected).length ≤ 10 :=
  (sortByX_perm s.selected).length_eq.trans_le s.selected_length_le

/-- Settles O22: the entries chosen are `selected`, and `sortByX` is a stable sort. -/
theorem spriteSelection : Obligations.SpriteSelection := by
  intro s hmode hdot h entry chosen l
  have htick : s.ppuTick = s.oamScanDot := by rw [State.ppuTick, hmode]
  have hl : l = sortByX s.selected := by
    simp only [l, htick, State.oamScanDot_last hdot]
  have hchosen : s.selected = chosen := rfl
  rw [hl, htick, State.oamScanDot_last hdot, ← hchosen]
  exact ⟨rfl, sortByX_selected_length_le s, sortByX_perm _, sortByX_pairwise _, filter_sortByX _⟩

end Sys2Proof.Machine

end

section

namespace Sys2Proof.Machine

/-! ## The fetcher's phases (rules R542 to R550) -/

theorem State.fetcherStep_of_fetchTileId {s : State} (h : s.fetcher.phase = .fetchTileId) :
    s.fetcherStep = s.fetchTileId := by rw [State.fetcherStep, h]

theorem State.fetcherStep_of_fetchDataHigh {s : State} (h : s.fetcher.phase = .fetchDataHigh) :
    s.fetcherStep = s.fetchPlane0 := by rw [State.fetcherStep, h]

theorem State.fetcherStep_of_fetchDataLow {s : State} (h : s.fetcher.phase = .fetchDataLow) :
    s.fetcherStep = s.fetchPlane1 := by rw [State.fetcherStep, h]

theorem State.fetcherStep_of_sleep {s : State} (h : s.fetcher.phase = .sleep) :
    s.fetcherStep = { s with fetcher := { s.fetcher with phase := .push } } := by rw [State.fetcherStep, h]

theorem State.fetcherStep_of_push {s : State} (h : s.fetcher.phase = .push) (hlen : s.fetcher.fifo.length ≤ 8) :
    s.fetcherStep = { s with fetcher := { s.fetcher with
      fifo := s.fetcher.fifo ++ groupShades s.ppu s.fetcher
      fifoX := s.fetcher.fifoX + 8, phase := .fetchTileId } } := by
  rw [State.fetcherStep, h]
  exact if_neg (Nat.not_lt.mpr hlen)

/-! ## The pusher (rule R554) -/

theorem Ppu.fineScroll_le (p : Ppu) : p.fineScroll ≤ 7 := Nat.le_of_lt_succ (Nat.mod_lt _ (by decide))

theorem State.pusherStep_of_short {s : State} (h : s.fetcher.fifo.length ≤ 8) : s.pusherStep = s := by
  unfold State.pusherStep
  split
  · rfl
  next hfifo => exact if_neg (by rw [← hfifo]; omega)

theorem State.plot_eq (t : State) (px : BitVec 2) : t.plot px = { t with
    framebuf := if t.fetcher.pushedX < 160 ∧ t.ppu.ly.toNat < 144 then
      sparseInsert t.framebuf (pixelNumber t.fetcher.pushedX t.ppu.ly.toNat) px else t.framebuf } := by
  unfold State.plot
  split <;> rfl

section

variable {s : State} {px : BitVec 2} {rest : List (BitVec 2)} (hfifo : s.fetcher.fifo = px :: rest)
  (hlen : 8 ≤ rest.length)

include hfifo hlen

theorem State.pusherStep_of_discard (h : s.fetcher.lineX < s.ppu.fineScroll) :
    s.pusherStep = { s with fetcher := { s.fetcher with fifo := rest, lineX := s.fetcher.lineX + 1 } } := by
  have hlong : 8 < (px :: rest).length := Nat.lt_succ_of_le hlen
  simp only [State.pusherStep, hfifo, if_pos hlong, State.emitPixel, if_neg (Nat.not_le.mpr h)]

theorem State.pusherStep_of_emit (h : s.ppu.fineScroll ≤ s.fetcher.lineX) : s.pusherStep = { s with
    framebuf := if s.fetcher.pushedX < 160 ∧ s.ppu.ly.toNat < 144 then
      sparseInsert s.framebuf (pixelNumber s.fetcher.pushedX s.ppu.ly.toNat) px else s.framebuf
    fetcher := { s.fetcher with fifo := rest, lineX := s.fetcher.lineX + 1, pushedX := s.fetcher.pushedX + 1 } } := by
  have hlong : 8 < (px :: rest).length := Nat.lt_succ_of_le hlen
  simp only [State.pusherStep, hfifo, if_pos hlong, State.emitPixel, if_pos h, State.plot_eq]

end

theorem FrameBuf.pixelAt_insert_same (fb : FrameBuf) (n : Nat) (px : BitVec 2) :
    FrameBuf.pixelAt (sparseInsert fb n px) n = px := by
  simp [FrameBuf.pixelAt]

theorem FrameBuf.pixelAt_insert_other (fb : FrameBuf) {n m : Nat} (px : BitVec 2) (h : m ≠ n) :
    FrameBuf.pixelAt (sparseInsert fb n px) m = FrameBuf.pixelAt fb m := by
  simp only [FrameBuf.pixelAt, sparseFind_insert_other fb px h]

/-- Settles O26: the pusher's three cases. -/
theorem pusherStep : Obligations.PusherStep := by
  refine ⟨fun s h => State.pusherStep_of_short h,
    fun s px rest hfifo hlen h => State.pusherStep_of_discard hfifo hlen h,
    fun s px rest hfifo hlen h hx hly => ?_⟩
  rw [State.pusherStep_of_emit hfifo hlen h, if_pos ⟨hx, hly⟩]
  exact ⟨FrameBuf.pixelAt_insert_same .., fun n hn => FrameBuf.pixelAt_insert_other _ _ hn, rfl⟩

/-! ## Colours and palettes on numbers (rules R545, R551, R553) -/

theorem colourIndex_toNat (lo hi : Byte) (b : Nat) :
    (colourIndex lo hi b).toNat = (lo.getLsbD b).toNat + 2 * (hi.getLsbD b).toNat := by
  unfold colourIndex
  cases lo.getLsbD b <;> cases hi.getLsbD b <;> rfl

theorem paletteShade_toNat (pal : Byte) (idx : BitVec 2) :
    (paletteShade pal idx).toNat = pal.toNat / 4 ^ idx.toNat % 4 := by
  rw [paletteShade, BitVec.extractLsb'_toNat, Nat.shiftRight_eq_div_pow, Nat.pow_mul]

theorem bgIndex_toNat (p : Ppu) (f : Fetcher) (j : Nat) : (bgIndex p f j).toNat = if p.lcdc.getLsbD 0 then
    (f.bgwLo.getLsbD (7 - j)).toNat + 2 * (f.bgwHi.getLsbD (7 - j)).toNat else 0 := by
  unfold bgIndex
  split
  · exact colourIndex_toNat ..
  · rfl

theorem groupShades_length (p : Ppu) (f : Fetcher) : (groupShades p f).length = 8 := by
  rw [groupShades, List.length_map, List.length_range]

theorem groupShades_getD (p : Ppu) (f : Fetcher) {j : Nat} (hj : j < 8) :
    (groupShades p f).getD j 0 = pixelShade p f j := by
  rw [groupShades, List.getD_eq_getElem _ _ (by simpa using hj), List.getElem_map, List.getElem_range]

theorem pixelShade_background {p : Ppu} (h : p.lcdc.getLsbD 1 = false) (f : Fetcher) (j : Nat) :
    pixelShade p f j = paletteShade p.bgp (bgIndex p f j) := by
  rw [pixelShade, h]
  rfl

/-- Settles O24: with sprites off each shade is the background palette's. -/
theorem pushBackground : Obligations.PushBackground := by
  intro s hphase hlen hsprites
  refine ⟨groupShades s.ppu s.fetcher, groupShades_length .., State.fetcherStep_of_push hphase hlen, fun j hj => ?_⟩
  rw [groupShades_getD _ _ hj, pixelShade_background hsprites, paletteShade_toNat, bgIndex_toNat]

/-! ## Sprites over the background (rules R550 and R552) -/

/-- The column of sprite `u` at FIFO coordinate `x`. -/
def spriteColumn (p : Ppu) (x : Nat) (u : Fetched) : Int := (x : Int) - u.entry.leftX p.fineScroll

/-- The plane bit of a column, x-flip applied. -/
def spriteBit (p : Ppu) (x : Nat) (u : Fetched) : Nat :=
  if u.entry.attr.getLsbD 5 then (spriteColumn p x u).toNat else 7 - (spriteColumn p x u).toNat

/-- A sprite covers the pixel, is not transparent there and does not lose to background index `idx`. -/
def SpriteShows (p : Ppu) (idx : BitVec 2) (x : Nat) (u : Fetched) : Prop :=
  0 ≤ spriteColumn p x u ∧ spriteColumn p x u ≤ 7 ∧ colourIndex u.lo u.hi (spriteBit p x u) ≠ 0 ∧
    ¬ (u.entry.attr.getLsbD 7 = true ∧ idx ≠ 0)

theorem spriteShade_of_shows {p : Ppu} {idx : BitVec 2} {x : Nat} {u : Fetched} (h : SpriteShows p idx x u) :
    spriteShade p idx x u = some (paletteShade (if u.entry.attr.getLsbD 4 then p.obp1 else p.obp0)
      (colourIndex u.lo u.hi (spriteBit p x u))) := by
  obtain ⟨hlo, hhi, hidx, hwin⟩ := h
  have hcover : ¬ (spriteColumn p x u < 0 ∨ 7 < spriteColumn p x u) := by omega
  exact ((if_neg hcover).trans (if_neg hidx)).trans (if_neg hwin)

theorem spriteShade_of_not_shows {p : Ppu} {idx : BitVec 2} {x : Nat} {u : Fetched} (h : ¬ SpriteShows p idx x u) :
    spriteShade p idx x u = none := by
  by_cases hcover : spriteColumn p x u < 0 ∨ 7 < spriteColumn p x u
  · exact if_pos hcover
  refine (if_neg hcover).trans ?_
  by_cases hidx : colourIndex u.lo u.hi (spriteBit p x u) = 0
  · exact if_pos hidx
  refine (if_neg hidx).trans (if_pos ?_)
  by_contra hwin
  exact h ⟨by omega, by omega, hidx, hwin⟩

section

variable {p : Ppu} {f : Fetcher} {j : Nat} (hsprites : p.lcdc.getLsbD 1 = true)

include hsprites

/-- The first sprite that shows gives the shade. -/
theorem pixelShade_of_shows {before after : List Fetched} {u : Fetched} (hf : f.fetched = before ++ u :: after)
    (hbefore : ∀ v ∈ before, ¬ SpriteShows p (bgIndex p f j) (f.fifoX + j) v)
    (hu : SpriteShows p (bgIndex p f j) (f.fifoX + j) u) :
    pixelShade p f j = paletteShade (if u.entry.attr.getLsbD 4 then p.obp1 else p.obp0)
      (colourIndex u.lo u.hi (spriteBit p (f.fifoX + j) u)) := by
  have hnone : before.findSome? (spriteShade p (bgIndex p f j) (f.fifoX + j)) = none :=
    List.findSome?_eq_none_iff.mpr fun v hv => spriteShade_of_not_shows (hbefore v hv)
  rw [pixelShade, if_pos hsprites, hf, List.findSome?_append, hnone, Option.none_or, List.findSome?_cons,
    spriteShade_of_shows hu]
  rfl

/-- Where none shows the background's shade stays. -/
theorem pixelShade_of_none_shows (h : ∀ u ∈ f.fetched, ¬ SpriteShows p (bgIndex p f j) (f.fifoX + j) u) :
    pixelShade p f j = paletteShade p.bgp (bgIndex p f j) := by
  have hnone : f.fetched.findSome? (spriteShade p (bgIndex p f j) (f.fifoX + j)) = none :=
    List.findSome?_eq_none_iff.mpr fun v hv => spriteShade_of_not_shows (h v hv)
  rw [pixelShade, if_pos hsprites, hnone]
  rfl

end

theorem State.pushed_shade {s : State} {j : Nat} (hphase : s.fetcher.phase = .push) (hlen : s.fetcher.fifo.length ≤ 8)
    (hj : j < 8) :
    s.fetcherStep.fetcher.fifo.getD (s.fetcher.fifo.length + j) 0 = pixelShade s.ppu s.fetcher j := by
  rw [State.fetcherStep_of_push hphase hlen, ← groupShades_getD _ _ hj]
  exact (List.getD_append_right _ _ _ _ (by omega)).trans (by rw [Nat.add_sub_cancel_left])

theorem bitVec_ne_zero_iff {w : Nat} {v : BitVec w} {n : Nat} (h : v.toNat = n) : v ≠ 0 ↔ n ≠ 0 := by
  rw [← h, ne_eq, ← BitVec.toNat_inj]
  simp

/-- Settles O25: `spriteShade` answers exactly where the sprite shows, and the first answer is taken. -/
theorem spriteOverride : Obligations.SpriteOverride := by
  intro s j hphase hlen hsprites hj idx off bit sidx shows shade
  have hidx : (bgIndex s.ppu s.fetcher j).toNat = idx := bgIndex_toNat ..
  have hoff (u : Fetched) : spriteColumn s.ppu (s.fetcher.fifoX + j) u = off u := by
    simp only [spriteColumn, off, OamEntry.leftX, Ppu.fineScroll, Nat.cast_add]
  have hbit (u : Fetched) (h : 0 ≤ off u ∧ off u ≤ 7) : spriteBit s.ppu (s.fetcher.fifoX + j) u = bit u := by
    simp only [spriteBit, bit, hoff]
    split <;> omega
  have hsidx (u : Fetched) (h : 0 ≤ off u ∧ off u ≤ 7) :
      (colourIndex u.lo u.hi (spriteBit s.ppu (s.fetcher.fifoX + j) u)).toNat = sidx u := by
    rw [hbit u h, colourIndex_toNat]
  have hshows (u : Fetched) : SpriteShows s.ppu (bgIndex s.ppu s.fetcher j) (s.fetcher.fifoX + j) u ↔ shows u := by
    simp only [SpriteShows, shows, hoff, bitVec_ne_zero_iff hidx]
    constructor
    · rintro ⟨hlo, hhi, hne, hwin⟩
      exact ⟨hlo, hhi, (bitVec_ne_zero_iff (hsidx u ⟨hlo, hhi⟩)).mp hne, hwin⟩
    · rintro ⟨hlo, hhi, hne, hwin⟩
      exact ⟨hlo, hhi, (bitVec_ne_zero_iff (hsidx u ⟨hlo, hhi⟩)).mpr hne, hwin⟩
  have hshade : shade = (pixelShade s.ppu s.fetcher j).toNat :=
    congrArg BitVec.toNat (State.pushed_shade hphase hlen hj)
  refine ⟨fun before u after hf hbefore hu => ?_, fun hnone => ?_⟩
  · have ⟨hlo, hhi, _⟩ := hu
    rw [hshade, pixelShade_of_shows hsprites hf (fun v hv => mt (hshows v).mp (hbefore v hv)) ((hshows u).mpr hu),
      paletteShade_toNat, hsidx u ⟨hlo, hhi⟩]
  · rw [hshade, pixelShade_of_none_shows hsprites fun u hu => mt (hshows u).mp (hnone u hu), paletteShade_toNat, hidx]

/-! ## Tile fetch (rules R542, R543, R545) -/

/-- The three steps of a tile fetch: each plane byte is read where `bgOffset` says of the registers latched. -/
theorem State.tileFetch_steps {s : State} (h : s.fetcher.phase = .fetchTileId) :
    let t := s.fetchTileId
    s.fetcherStep = t ∧ s.fetcherStep.fetcherStep = t.fetchPlane0 ∧
      s.fetcherStep.fetcherStep.fetcherStep = t.fetchPlane0.fetchPlane1 := by
  intro t
  have h1 : s.fetcherStep = t := State.fetcherStep_of_fetchTileId h
  have h2 : t.fetcherStep = t.fetchPlane0 := State.fetcherStep_of_fetchDataHigh rfl
  have h3 : t.fetchPlane0.fetcherStep = t.fetchPlane0.fetchPlane1 := State.fetcherStep_of_fetchDataLow rfl
  rw [h1, h2, h3]
  exact ⟨rfl, rfl, rfl⟩

theorem Ppu.windowGroup_of_disabled {p : Ppu} (h : p.lcdc.getLsbD 5 = false) (fetchX : Nat) :
    p.windowGroup fetchX = false := by
  simp only [Ppu.windowGroup, h, Bool.false_and]

theorem Ppu.mapPoint_background {p : Ppu} (h : p.lcdc.getLsbD 5 = false) (fetchX : Nat) : p.mapPoint fetchX =
    (mapBase (p.lcdc.getLsbD 3), (fetchX + p.scx.toNat) % 256 / 8, (p.ly.toNat + p.scy.toNat) % 256) := by
  rw [Ppu.mapPoint, Ppu.windowGroup_of_disabled h]
  rfl

theorem Ppu.mapPoint_window {p : Ppu} {fetchX : Nat} (h : p.windowGroup fetchX = true) : p.mapPoint fetchX =
    (mapBase (p.lcdc.getLsbD 6), (fetchX + 7 - p.wx.toNat) / 8 % 32, p.windowLine.toNat) :=
  if_pos h

/-- A map byte by its bus address. -/
theorem State.vramAt_map (s : State) (high : Bool) {row : Nat} (hrow : row < 256) (col : Nat) :
    s.vramAt (mapBase high + row / 8 % 32 * 32 + col) =
      s.mem.byteAt ((if high then 0x9C00 else 0x9800) + row / 8 * 32 + col) := by
  rw [State.vramAt, Nat.mod_eq_of_lt (by omega : row / 8 < 32), ← Nat.add_assoc, ← Nat.add_assoc]
  cases high <;> rfl

/-- Where the plane bytes of the group are read, by the tile latched and the row in the map. -/
theorem State.bgOffset_fetchTileId (s : State) (plane : Nat) :
    bgOffset s.fetchTileId.ppu s.fetchTileId.fetcher plane = (if s.ppu.lcdc.getLsbD 4 then 0x0000 else 0x0800) +
      s.fetchTileId.fetcher.bgwTile.toNat * 16 + (s.ppu.mapPoint s.fetcher.fetchX).2.2 % 8 * 2 + plane := by
  have hrow (n : Nat) : (BitVec.ofNat 3 (n % 8)).toNat = n % 8 := by
    rw [BitVec.toNat_ofNat]
    exact Nat.mod_mod n 8
  rw [bgOffset, ← hrow]
  rfl

/-- In the signed tile area tile `id` stands at 0x9000 + 16 * signed(id). -/
theorem signed_tile_toNat (id : Byte) : (((id + 128).toNat : Nat) : Int) = id.toInt + 128 := by
  revert id
  decide

/-- Settles O27: the map byte selects the tile, and the two plane steps read its row. -/
theorem tileFetch : Obligations.TileFetch := by
  refine ⟨?background, ?window⟩
  case background =>
    intro s hphase h4 h5 my mx map id t1 t2 t3
    obtain ⟨-, h2, h3⟩ := State.tileFetch_steps hphase
    have hpoint := Ppu.mapPoint_background h5 s.fetcher.fetchX
    have hmy : my < 256 := Nat.mod_lt _ (by decide)
    have htile : s.fetchTileId.fetcher.bgwTile = id + 128 := by
      simp only [State.fetchTileId, hpoint, h4]
      exact congrArg (· + 128) (s.vramAt_map _ hmy (mx / 8))
    have hoffset (plane : Nat) : bgOffset s.fetchTileId.ppu s.fetchTileId.fetcher plane =
        0x0800 + (id + 128).toNat * 16 + my % 8 * 2 + plane := by
      rw [State.bgOffset_fetchTileId, htile, hpoint, h4]
      rfl
    have hsigned := signed_tile_toNat id
    have hlo : 0x8000 + bgOffset s.fetchTileId.ppu s.fetchTileId.fetcher 0 =
        (0x9000 + 16 * id.toInt + 2 * (my % 8 : Nat)).toNat := by
      rw [hoffset]
      omega
    have hhi : 0x8000 + bgOffset s.fetchTileId.ppu s.fetchTileId.fetcher 1 =
        (0x9000 + 16 * id.toInt + 2 * (my % 8 : Nat) + 1).toNat := by
      rw [hoffset]
      omega
    simp only [t2, t3, t1, h2, h3]
    rw [← hlo, ← hhi]
    refine ⟨rfl, rfl, rfl, rfl, ?_⟩
    show { s.ppu with windowUsed := s.ppu.windowUsed || s.ppu.windowGroup s.fetcher.fetchX } = s.ppu
    rw [Ppu.windowGroup_of_disabled h5, Bool.or_false]
  case window =>
    intro s hphase h4 h5 hwx hwy hly hx col wl map id t1 t2 t3
    obtain ⟨-, h2, h3⟩ := State.tileFetch_steps hphase
    have hwindow : s.ppu.windowGroup s.fetcher.fetchX = true := by
      simp only [Ppu.windowGroup, h5, hwx, hwy, hly, hx, decide_true, Bool.and_true]
    have hpoint := Ppu.mapPoint_window hwindow
    have htile : s.fetchTileId.fetcher.bgwTile = id := by
      simp only [State.fetchTileId, hpoint, h4]
      exact s.vramAt_map _ s.ppu.windowLine.isLt col
    have hoffset (plane : Nat) : 0x8000 + bgOffset s.fetchTileId.ppu s.fetchTileId.fetcher plane =
        0x8000 + 16 * id.toNat + 2 * (wl % 8) + plane := by
      rw [State.bgOffset_fetchTileId, htile, hpoint, h4]
      show 0x8000 + (0 + id.toNat * 16 + wl % 8 * 2 + plane) = _
      omega
    simp only [t2, t3, t1, h2, h3]
    refine ⟨congrArg s.mem.byteAt (hoffset 0), congrArg s.mem.byteAt (hoffset 1), ?_⟩
    show { s.ppu with windowUsed := s.ppu.windowUsed || s.ppu.windowGroup s.fetcher.fetchX } = _
    rw [hwindow, Bool.or_true]

end Sys2Proof.Machine

end

section

namespace Sys2Proof.Machine

/-! ## What the fetcher and the pusher leave alone (rules R504, R542, R554) -/

theorem Ppu.pick_length_le (p : Ppu) (fetchX : Nat) : (p.pick fetchX).length ≤ 3 := by
  unfold Ppu.pick
  split
  · rw [List.length_map]
    exact List.length_take_le ..
  · exact Nat.zero_le 3

/-- `t` is `s` but for the fetcher, the frame buffer and `windowUsed`. -/
def State.SameButPixels (s t : State) : Prop :=
  ∃ (f : Fetcher) (fb : FrameBuf) (used : Bool),
    t = { s with fetcher := f, framebuf := fb, ppu := { s.ppu with windowUsed := used } }

/-- A fetcher step writes no pixel, and picks three sprites at most. -/
theorem State.fetcherStep_frame (s : State) : ∃ (f : Fetcher) (used : Bool),
    s.fetcherStep = { s with fetcher := f, ppu := { s.ppu with windowUsed := used } } ∧
      f.pushedX = s.fetcher.pushedX ∧ (s.fetcher.fetched.length ≤ 3 → f.fetched.length ≤ 3) := by
  unfold State.fetcherStep
  split
  · exact ⟨_, _, rfl, rfl, fun _ => s.ppu.pick_length_le _⟩
  · exact ⟨_, _, rfl, rfl, (List.length_map ..).trans_le⟩
  · exact ⟨_, _, rfl, rfl, (List.length_map ..).trans_le⟩
  · exact ⟨_, _, rfl, rfl, id⟩
  · unfold State.fetchPush
    split <;> exact ⟨_, _, rfl, rfl, id⟩

/-- What a pusher step does, whatever the FIFO holds. -/
theorem State.pusherStep_cases (s : State) :
    (s.fetcher.fifo.length ≤ 8 ∧ s.pusherStep = s) ∨
    ∃ px rest, s.fetcher.fifo = px :: rest ∧ 8 ≤ rest.length ∧
      ((s.fetcher.lineX < s.ppu.fineScroll ∧
        s.pusherStep = { s with fetcher := { s.fetcher with fifo := rest, lineX := s.fetcher.lineX + 1 } }) ∨
      (s.ppu.fineScroll ≤ s.fetcher.lineX ∧ s.pusherStep = { s with
        framebuf := if s.fetcher.pushedX < 160 ∧ s.ppu.ly.toNat < 144 then
          sparseInsert s.framebuf (pixelNumber s.fetcher.pushedX s.ppu.ly.toNat) px else s.framebuf
        fetcher := { s.fetcher with
          fifo := rest, lineX := s.fetcher.lineX + 1, pushedX := s.fetcher.pushedX + 1 } })) := by
  by_cases hlen : s.fetcher.fifo.length ≤ 8
  · exact .inl ⟨hlen, State.pusherStep_of_short hlen⟩
  · match hfifo : s.fetcher.fifo with
    | [] => simp [hfifo] at hlen
    | px :: rest =>
      have hrest : 8 ≤ rest.length := by
        rw [hfifo, List.length_cons] at hlen
        omega
      refine .inr ⟨px, rest, rfl, hrest, ?_⟩
      by_cases hscroll : s.fetcher.lineX < s.ppu.fineScroll
      · exact .inl ⟨hscroll, State.pusherStep_of_discard hfifo hrest hscroll⟩
      · exact .inr ⟨Nat.le_of_not_lt hscroll, State.pusherStep_of_emit hfifo hrest (Nat.le_of_not_lt hscroll)⟩

theorem State.pusherStep_sameButPixels (s : State) : s.SameButPixels s.pusherStep := by
  obtain ⟨-, h⟩ | ⟨_, _, -, -, ⟨-, h⟩ | ⟨-, h⟩⟩ := s.pusherStep_cases <;> rw [h] <;> exact ⟨_, _, _, rfl⟩

theorem State.SameButPixels.trans {s t u : State} (h : s.SameButPixels t) (k : t.SameButPixels u) :
    s.SameButPixels u := by
  obtain ⟨_, _, _, rfl⟩ := h
  obtain ⟨_, _, _, rfl⟩ := k
  exact ⟨_, _, _, rfl⟩

/-! ## A Draw dot (rules R501, R504, R506) -/

/-- A Draw dot after its fetcher step, if it has one. -/
def State.drawFetched (s : State) : State := if s.ppu.lineDot % 2 = 0 then s.fetcherStep else s

/-- A Draw dot before its end test. -/
def State.drawn (s : State) : State := s.drawFetched.pusherStep

theorem State.drawFetched_frame (s : State) : ∃ (f : Fetcher) (used : Bool),
    s.drawFetched = { s with fetcher := f, ppu := { s.ppu with windowUsed := used } } ∧
      f.pushedX = s.fetcher.pushedX ∧ (s.fetcher.fetched.length ≤ 3 → f.fetched.length ≤ 3) := by
  unfold State.drawFetched
  split
  · exact s.fetcherStep_frame
  · exact ⟨_, _, rfl, rfl, id⟩

theorem State.drawFetched_sameButPixels (s : State) : s.SameButPixels s.drawFetched := by
  obtain ⟨_, _, h, -⟩ := s.drawFetched_frame
  exact ⟨_, _, _, h⟩

theorem State.drawFetched_framebuf (s : State) : s.drawFetched.framebuf = s.framebuf := by
  obtain ⟨_, _, h, -⟩ := s.drawFetched_frame
  rw [h]

theorem State.drawFetched_pushedX (s : State) : s.drawFetched.fetcher.pushedX = s.fetcher.pushedX := by
  obtain ⟨_, _, h, hpushed, -⟩ := s.drawFetched_frame
  rw [h]
  exact hpushed

theorem State.drawFetched_picked {s : State} (hpicked : s.fetcher.fetched.length ≤ 3) :
    s.drawFetched.fetcher.fetched.length ≤ 3 := by
  obtain ⟨_, _, h, -, hle⟩ := s.drawFetched_frame
  rw [h]
  exact hle hpicked

theorem State.drawn_sameButPixels (s : State) : s.SameButPixels s.drawn :=
  s.drawFetched_sameButPixels.trans s.drawFetched.pusherStep_sameButPixels

theorem State.drawDot_of_ongoing {s : State} (h : s.drawn.fetcher.pushedX < 160) :
    s.drawDot = { s.drawn with ppu := { s.drawn.ppu with lineDot := s.drawn.ppu.lineDot + 1 } } := by
  have hend : (if 160 ≤ s.drawn.fetcher.pushedX then s.drawn.endDraw else s.drawn) = s.drawn :=
    if_neg (Nat.not_le.mpr h)
  exact congrArg (fun t : State => { t with ppu := { t.ppu with lineDot := t.ppu.lineDot + 1 } }) hend

theorem State.drawDot_of_end {s : State} (h : 160 ≤ s.drawn.fetcher.pushedX) : s.drawDot = { s.drawn with
    fetcher := { s.drawn.fetcher with fifo := [] }
    ppu := { s.drawn.ppu with mode := .hblank, lineDot := s.drawn.ppu.lineDot + 1 }
    irq := { s.drawn.irq with req := s.drawn.irq.req ||| (if s.drawn.ppu.statBit 3 then 0b00010 else 0) } } := by
  have hend : (if 160 ≤ s.drawn.fetcher.pushedX then s.drawn.endDraw else s.drawn) = s.drawn.endDraw := if_pos h
  exact congrArg (fun t : State => { t with ppu := { t.ppu with lineDot := t.ppu.lineDot + 1 } })
    (hend.trans (State.requestStat_eq ..))

/-! ## The schedule of a drawn line (rules R555 to R557) -/

/-- The fetcher's phase after `n` steps. -/
def stepPhase (n : Nat) : Phase :=
  if n % 5 = 0 then .fetchTileId
  else if n % 5 = 1 then .fetchDataHigh
  else if n % 5 = 2 then .fetchDataLow
  else if n % 5 = 3 then .sleep
  else .push

/-- Where the fetcher and the FIFO stand after `steps` fetcher steps and `pops` pixels dequeued, of which at most seven
were discarded. -/
structure Fetcher.At (f : Fetcher) (steps pops : Nat) : Prop where
  phase : f.phase = stepPhase steps
  fetchX : f.fetchX = 8 * ((steps + 4) / 5)
  fifoX : f.fifoX = 8 * (steps / 5)
  lineX : f.lineX = pops
  fifo : f.fifo.length + f.lineX = f.fifoX
  pushedX_le : f.pushedX ≤ f.lineX
  lineX_le : f.lineX ≤ f.pushedX + 7

theorem Fetcher.at_cleared : Fetcher.cleared.At 0 0 where
  phase := rfl
  fetchX := rfl
  fifoX := rfl
  lineX := rfl
  fifo := rfl
  pushedX_le := Nat.le_refl 0
  lineX_le := Nat.zero_le 7

/-- A fetcher step is one step of the schedule, if a push finds room. -/
theorem Fetcher.At.fetcherStep {s : State} {n p : Nat} (h : s.fetcher.At n p)
    (hroom : n % 5 = 4 → s.fetcher.fifo.length ≤ 8) : s.fetcherStep.fetcher.At (n + 1) p := by
  obtain ⟨hphase, hfetchX, hfifoX, hlineX, hfifo, hle, hlag⟩ := h
  have hmod : n % 5 < 5 := Nat.mod_lt n (by decide)
  have hnext (k : Nat) (hk : n % 5 = k) : (n + 1) % 5 = (k + 1) % 5 := by omega
  generalize hm : n % 5 = m at hmod
  interval_cases m
  · rw [State.fetcherStep_of_fetchTileId (by rw [hphase, stepPhase, hm]; rfl)]
    exact ⟨by rw [stepPhase, hnext 0 hm]; rfl, by simp only [State.fetchTileId]; omega,
      by simp only [State.fetchTileId]; omega, hlineX, hfifo, hle, hlag⟩
  · rw [State.fetcherStep_of_fetchDataHigh (by rw [hphase, stepPhase, hm]; rfl)]
    exact ⟨by rw [stepPhase, hnext 1 hm]; rfl, by simp only [State.fetchPlane0]; omega,
      by simp only [State.fetchPlane0]; omega, hlineX, hfifo, hle, hlag⟩
  · rw [State.fetcherStep_of_fetchDataLow (by rw [hphase, stepPhase, hm]; rfl)]
    exact ⟨by rw [stepPhase, hnext 2 hm]; rfl, by simp only [State.fetchPlane1]; omega,
      by simp only [State.fetchPlane1]; omega, hlineX, hfifo, hle, hlag⟩
  · rw [State.fetcherStep_of_sleep (by rw [hphase, stepPhase, hm]; rfl)]
    exact ⟨by rw [stepPhase, hnext 3 hm]; rfl, by dsimp only; omega, by dsimp only; omega, hlineX, hfifo, hle, hlag⟩
  · rw [State.fetcherStep_of_push (by rw [hphase, stepPhase, hm]; rfl) (hroom hm)]
    refine ⟨by rw [stepPhase, hnext 4 hm]; rfl, by dsimp only; omega, by dsimp only; omega, hlineX, ?_, hle, hlag⟩
    simp only [List.length_append, groupShades_length]
    omega

/-- A pusher step dequeues a pixel exactly with more than 8 in the FIFO, and writes at most one. -/
theorem Fetcher.At.pusherStep {s : State} {n p : Nat} (h : s.fetcher.At n p) :
    s.pusherStep.fetcher.At n (if 8 < s.fetcher.fifo.length then p + 1 else p) ∧
      s.pusherStep.fetcher.pushedX ≤ s.fetcher.pushedX + 1 := by
  obtain ⟨hphase, hfetchX, hfifoX, hlineX, hfifo, hle, hlag⟩ := h
  obtain ⟨hlen, hpush⟩ | ⟨px, rest, hcons, hrest, hpush⟩ := s.pusherStep_cases
  · rw [hpush, if_neg (by omega)]
    exact ⟨⟨hphase, hfetchX, hfifoX, hlineX, hfifo, hle, hlag⟩, by omega⟩
  · have hlen : s.fetcher.fifo.length = rest.length + 1 := by rw [hcons, List.length_cons]
    rw [if_pos (by omega)]
    obtain ⟨hscroll, hpush⟩ | ⟨-, hpush⟩ := hpush
    · have := s.ppu.fineScroll_le
      rw [hpush]
      exact ⟨⟨hphase, hfetchX, hfifoX, congrArg (· + 1) hlineX, by dsimp only; omega, by dsimp only; omega,
        by dsimp only; omega⟩, by dsimp only; omega⟩
    · rw [hpush]
      exact ⟨⟨hphase, hfetchX, hfifoX, congrArg (· + 1) hlineX, by dsimp only; omega, by dsimp only; omega,
        by dsimp only; omega⟩, by dsimp only; omega⟩

/-! ## The schedule by dots (rules R505 and R557) -/

theorem drawSteps_succ {d : Nat} (hd : 80 ≤ d) :
    drawSteps (d + 1) = if d % 2 = 0 then drawSteps d + 1 else drawSteps d := by
  unfold drawSteps
  split <;> omega

/-- A push comes in dots 88, 98, 108 and so on, when eight pixels at most are left. -/
theorem room_for_push {d : Nat} (hd : 80 ≤ d) (heven : d % 2 = 0) (hpush : drawSteps d % 5 = 4) :
    8 * (drawSteps d / 5) ≤ drawPops d + 8 := by
  unfold drawPops drawSteps at *
  omega

/-- A pixel is dequeued in a dot exactly when the FIFO holds more than eight after its fetcher step. -/
theorem drawPops_succ {d : Nat} (hd : 80 ≤ d) : drawPops (d + 1) =
    if 8 < 8 * (drawSteps (d + 1) / 5) - drawPops d then drawPops d + 1 else drawPops d := by
  unfold drawPops drawSteps
  split <;> omega

section

variable {s : State} (hdot : 80 ≤ s.ppu.lineDot) (h : s.fetcher.At (drawSteps s.ppu.lineDot) (drawPops s.ppu.lineDot))

include hdot h

theorem State.drawFetched_at : s.drawFetched.fetcher.At (drawSteps (s.ppu.lineDot + 1)) (drawPops s.ppu.lineDot) := by
  rw [drawSteps_succ hdot, State.drawFetched]
  split
  next heven =>
    refine h.fetcherStep fun hpush => ?_
    have hroom := room_for_push hdot heven hpush
    have hlen := h.fifo
    rw [h.fifoX, h.lineX] at hlen
    omega
  · exact h

/-- A Draw dot is one dot of the schedule. -/
theorem State.drawn_at : s.drawn.fetcher.At (drawSteps (s.ppu.lineDot + 1)) (drawPops (s.ppu.lineDot + 1)) ∧
    s.drawn.fetcher.pushedX ≤ s.drawFetched.fetcher.pushedX + 1 := by
  have hat := State.drawFetched_at hdot h
  have hlen : s.drawFetched.fetcher.fifo.length =
      8 * (drawSteps (s.ppu.lineDot + 1) / 5) - drawPops s.ppu.lineDot := by
    have := hat.fifo
    rw [hat.fifoX, hat.lineX] at this
    omega
  rw [drawPops_succ hdot, ← hlen]
  exact hat.pusherStep

end

/-! ## The kept schedule (rules R505, R523, R524) -/

theorem State.FetchOk.at {s : State} (h : s.FetchOk) (hmode : s.ppu.mode = .draw) :
    s.fetcher.At (drawSteps s.ppu.lineDot) (drawPops s.ppu.lineDot) := by
  obtain ⟨-, hle, hlag⟩ := h.pushed hmode
  exact ⟨h.phase hmode, h.fetchX hmode, h.fifoX hmode, h.lineX hmode, h.fifo hmode, hle, hlag⟩

theorem State.FetchOk.of_at {s : State} (hsprites : s.ppu.lineSprites.length ≤ 10)
    (hpicked : s.fetcher.fetched.length ≤ 3) (hmode : s.ppu.mode = .draw)
    (h : s.fetcher.At (drawSteps s.ppu.lineDot) (drawPops s.ppu.lineDot)) (hpushed : s.fetcher.pushedX < 160) :
    s.FetchOk where
  sprites := hsprites
  picked := hpicked
  idle hne := absurd hmode hne
  phase _ := h.phase
  fetchX _ := h.fetchX
  fifoX _ := h.fifoX
  lineX _ := h.lineX
  fifo _ := h.fifo
  pushed _ := ⟨hpushed, h.pushedX_le, h.lineX_le⟩

theorem State.FetchOk.of_idle {s : State} (hsprites : s.ppu.lineSprites.length ≤ 10)
    (hpicked : s.fetcher.fetched.length ≤ 3) (hmode : s.ppu.mode ≠ .draw) (hfifo : s.fetcher.fifo = []) :
    s.FetchOk where
  sprites := hsprites
  picked := hpicked
  idle _ := hfifo
  phase h := absurd h hmode
  fetchX h := absurd h hmode
  fifoX h := absurd h hmode
  lineX h := absurd h hmode
  fifo h := absurd h hmode
  pushed h := absurd h hmode

section

variable {s : State}

theorem State.modeOk_iff_of_oamScan (hmode : s.ppu.mode = .oamScan) :
    s.ModeOk ↔ s.ppu.ly.toNat < 144 ∧ s.ppu.lineDot < 80 := by
  rw [State.ModeOk, hmode]

theorem State.modeOk_iff_of_draw (hmode : s.ppu.mode = .draw) :
    s.ModeOk ↔ s.ppu.ly.toNat < 144 ∧ 80 ≤ s.ppu.lineDot ∧ s.ppu.lineDot ≤ 304 := by
  rw [State.ModeOk, hmode]

theorem State.modeOk_iff_of_hblank (hmode : s.ppu.mode = .hblank) :
    s.ModeOk ↔ s.ppu.ly.toNat < 144 ∧ 296 ≤ s.ppu.lineDot := by
  rw [State.ModeOk, hmode]

theorem State.modeOk_iff_of_vblank (hmode : s.ppu.mode = .vblank) : s.ModeOk ↔ 144 ≤ s.ppu.ly.toNat := by
  rw [State.ModeOk, hmode]

end

/-- What a Draw dot leaves where the schedule is kept: seven pixels at most are behind, so 160 are written by dot 304
and none before dot 295. -/
theorem State.drawn_spec {s : State} (hmodeOk : s.ModeOk) (hfetchOk : s.FetchOk) (hmode : s.ppu.mode = .draw) :
    s.drawn.fetcher.At (drawSteps (s.ppu.lineDot + 1)) (drawPops (s.ppu.lineDot + 1)) ∧
      s.drawn.fetcher.pushedX ≤ 160 ∧ (s.ppu.lineDot = 304 → s.drawn.fetcher.pushedX = 160) ∧
      (s.drawn.fetcher.pushedX = 160 → 295 ≤ s.ppu.lineDot) := by
  obtain ⟨-, hlo, hhi⟩ := (State.modeOk_iff_of_draw hmode).mp hmodeOk
  obtain ⟨hat, hstep⟩ := State.drawn_at hlo (hfetchOk.at hmode)
  obtain ⟨hpushed, -⟩ := hfetchOk.pushed hmode
  rw [State.drawFetched_pushedX] at hstep
  have hle := hat.pushedX_le
  have hlag := hat.lineX_le
  have hlineX := hat.lineX
  unfold drawPops at hlineX
  refine ⟨hat, by omega, fun h => by omega, fun h => by omega⟩

/-- Settles O23: the schedule dequeues 167 pixels by the end of dot 304, and at most seven of them are not written. -/
theorem drawEnds : Obligations.DrawEnds := by
  intro s hmodeOk hfetchOk hmode
  have htick : s.ppuTick = s.drawDot := by rw [State.ppuTick, hmode]
  obtain ⟨-, hle, h304, -⟩ := State.drawn_spec hmodeOk hfetchOk hmode
  obtain ⟨f, fb, used, hdrawn⟩ := s.drawn_sameButPixels
  rw [htick]
  by_cases hend : 160 ≤ s.drawn.fetcher.pushedX
  · have hppu : s.drawn.ppu = { s.ppu with windowUsed := used } := by rw [hdrawn]
    have hirq : s.drawn.irq = s.irq := by rw [hdrawn]
    rw [State.drawDot_of_end hend, hppu, hirq]
    exact ⟨fun _ => rfl, iff_of_true rfl (Nat.le_antisymm hle hend), fun _ => ⟨rfl, rfl⟩⟩
  · have hmode' : s.drawn.ppu.mode = .draw := by
      rw [hdrawn]
      exact hmode
    have hne : ¬ s.drawn.ppu.mode = .hblank := by
      rw [hmode']
      decide
    rw [State.drawDot_of_ongoing (Nat.lt_of_not_le hend)]
    exact ⟨fun h => absurd (h304 h).ge hend, iff_of_false hne fun h => hend h.ge, fun h => absurd h hne⟩

end Sys2Proof.Machine

end

section

namespace Sys2Proof.Machine

/-! ## The tick by mode (rule R501) -/

section

variable {s : State}

theorem State.ppuTick_of_oamScan (h : s.ppu.mode = .oamScan) : s.ppuTick = s.oamScanDot := by rw [State.ppuTick, h]

theorem State.ppuTick_of_draw (h : s.ppu.mode = .draw) : s.ppuTick = s.drawDot := by rw [State.ppuTick, h]

theorem State.ppuTick_of_hblank (h : s.ppu.mode = .hblank) : s.ppuTick = s.hblankDot := by rw [State.ppuTick, h]

theorem State.ppuTick_of_vblank (h : s.ppu.mode = .vblank) : s.ppuTick = s.vblankDot := by rw [State.ppuTick, h]

end

/-! ## Lines and frames (rules R500, R511, R512, R514) -/

theorem State.drawDot_line (s : State) :
    s.drawDot.ppu.ly = s.ppu.ly ∧ s.drawDot.frames = s.frames ∧ s.drawDot.ppu.lineDot = s.ppu.lineDot + 1 := by
  obtain ⟨_, _, _, hdrawn⟩ := s.drawn_sameButPixels
  by_cases hend : 160 ≤ s.drawn.fetcher.pushedX
  · rw [State.drawDot_of_end hend, hdrawn]
    exact ⟨rfl, rfl, rfl⟩
  · rw [State.drawDot_of_ongoing (Nat.lt_of_not_le hend), hdrawn]
    exact ⟨rfl, rfl, rfl⟩

theorem State.ppuTick_within_line {s : State} (hdot : s.ppu.lineDot < 455) : s.ppuTick.ppu.ly = s.ppu.ly ∧
    s.ppuTick.frames = s.frames ∧ s.ppuTick.ppu.lineDot = s.ppu.lineDot + 1 := by
  cases hmode : s.ppu.mode with
  | oamScan =>
    rw [State.ppuTick_of_oamScan hmode]
    by_cases h79 : s.ppu.lineDot = 79
    · rw [State.oamScanDot_last h79]
      exact ⟨rfl, rfl, rfl⟩
    · rw [State.oamScanDot_within h79]
      exact ⟨rfl, rfl, rfl⟩
  | draw =>
    rw [State.ppuTick_of_draw hmode]
    exact s.drawDot_line
  | hblank =>
    rw [State.ppuTick_of_hblank hmode, State.hblankDot_within hdot]
    exact ⟨rfl, rfl, rfl⟩
  | vblank =>
    rw [State.ppuTick_of_vblank hmode, State.vblankDot_within hdot]
    exact ⟨rfl, rfl, rfl⟩

/-- Only HBlank and VBlank reach the last dot of a line, and only VBlank that of line 153. -/
theorem State.mode_of_last_dot {s : State} (hmodeOk : s.ModeOk) (hdot : s.ppu.lineDot = 455) :
    (s.ppu.mode = .hblank ∧ s.ppu.ly.toNat < 144) ∨ s.ppu.mode = .vblank := by
  cases hmode : s.ppu.mode with
  | oamScan =>
    have := (State.modeOk_iff_of_oamScan hmode).mp hmodeOk
    omega
  | draw =>
    have := (State.modeOk_iff_of_draw hmode).mp hmodeOk
    omega
  | hblank =>
    obtain ⟨hly, -⟩ := (State.modeOk_iff_of_hblank hmode).mp hmodeOk
    exact .inl ⟨rfl, hly⟩
  | vblank => exact .inr rfl

section

variable {s : State} (hmodeOk : s.ModeOk) (hdot : s.ppu.lineDot = 455)

include hmodeOk hdot

theorem State.ppuTick_line_end (hly : s.ppu.ly.toNat < 153) : s.ppuTick.ppu.ly = s.ppu.ly + 1 ∧
    s.ppuTick.frames = s.frames ∧ s.ppuTick.ppu.lineDot = 0 := by
  obtain ⟨hmode, h144⟩ | hmode := State.mode_of_last_dot hmodeOk hdot
  · rw [State.ppuTick_of_hblank hmode, State.hblankDot_last hdot h144]
    exact ⟨rfl, rfl, rfl⟩
  · rw [State.ppuTick_of_vblank hmode, State.vblankDot_line_end hdot hly]
    exact ⟨rfl, rfl, rfl⟩

theorem State.ppuTick_frame_end (hly : s.ppu.ly.toNat = 153) : s.ppuTick.ppu.ly = 0 ∧
    s.ppuTick.frames = s.frames ++ [s.framebuf] ∧ s.ppuTick.ppu.lineDot = 0 ∧ s.ppuTick.ppu.mode = .oamScan ∧
    s.ppuTick.ppu.windowLine = 0 := by
  obtain ⟨-, h144⟩ | hmode := State.mode_of_last_dot hmodeOk hdot
  · omega
  · rw [State.ppuTick_of_vblank hmode, State.vblankDot_frame_end hdot hly]
    exact ⟨rfl, rfl, rfl, rfl, rfl⟩

end

/-- Settles O20: a dot inside the line, the end of a line, the end of the frame. -/
theorem lineEnds : Obligations.LineEnds := fun _ _ hmodeOk =>
  ⟨State.ppuTick_within_line, State.ppuTick_line_end hmodeOk, State.ppuTick_frame_end hmodeOk⟩

end Sys2Proof.Machine

end

section

namespace Sys2Proof.Machine

/-! ## The PPU's part of the invariant (rules R500, R505, R523, R524) -/

/-- The number of dots since reset that the PPU's position stands for. -/
def State.dotNumber (s : State) : Nat := s.frames.length * 70224 + s.ppu.ly.toNat * 456 + s.ppu.lineDot

/-- The PPU's position is in its ranges, and the mode and the drawn line fit it. -/
structure State.PpuOk (s : State) : Prop where
  dot : s.ppu.lineDot < 456
  line : s.ppu.ly.toNat < 154
  mode : s.ModeOk
  fetch : s.FetchOk

/-- A tick takes the position one dot on, over the ends of lines and frames. -/
theorem State.PpuOk.dotNumber_ppuTick {s : State} (h : s.PpuOk) : s.ppuTick.dotNumber = s.dotNumber + 1 := by
  have hdot := h.dot
  have hline := h.line
  unfold State.dotNumber
  by_cases hlast : s.ppu.lineDot = 455
  · by_cases h153 : s.ppu.ly.toNat = 153
    · obtain ⟨hly, hframes, hdot', -⟩ := State.ppuTick_frame_end h.mode hlast h153
      have hlen : s.ppuTick.frames.length = s.frames.length + 1 := by
        rw [hframes, List.length_append, List.length_singleton]
      have hzero : s.ppuTick.ppu.ly.toNat = 0 := congrArg BitVec.toNat hly
      omega
    · have hlt : s.ppu.ly.toNat < 153 := by omega
      obtain ⟨hly, hframes, hdot'⟩ := State.ppuTick_line_end h.mode hlast hlt
      rw [hly, hframes, byte_add_one_toNat hlt (by decide)]
      omega
  · obtain ⟨hly, hframes, hdot'⟩ := State.ppuTick_within_line (s := s) (by omega)
    rw [hly, hframes]
    omega

/-! ### The picked sprites (rule R544) -/

theorem State.pusherStep_picked (s : State) : s.pusherStep.fetcher.fetched = s.fetcher.fetched := by
  obtain ⟨-, h⟩ | ⟨_, _, -, -, ⟨-, h⟩ | ⟨-, h⟩⟩ := s.pusherStep_cases <;> rw [h]

theorem State.drawn_picked {s : State} (h : s.fetcher.fetched.length ≤ 3) : s.drawn.fetcher.fetched.length ≤ 3 := by
  rw [State.drawn, State.pusherStep_picked]
  exact State.drawFetched_picked h

/-! ### The four modes -/

section

variable {s : State} (hsprites : s.ppu.lineSprites.length ≤ 10) (hpicked : s.fetcher.fetched.length ≤ 3)

include hsprites hpicked

theorem State.PpuOk.of_oamScan (hmode : s.ppu.mode = .oamScan) (hly : s.ppu.ly.toNat < 144)
    (hdot : s.ppu.lineDot < 80) (hfifo : s.fetcher.fifo = []) : s.PpuOk :=
  ⟨by omega, by omega, (State.modeOk_iff_of_oamScan hmode).mpr ⟨hly, hdot⟩,
    .of_idle hsprites hpicked (by simp [hmode]) hfifo⟩

theorem State.PpuOk.of_draw (hmode : s.ppu.mode = .draw) (hly : s.ppu.ly.toNat < 144) (hlo : 80 ≤ s.ppu.lineDot)
    (hhi : s.ppu.lineDot ≤ 304) (hat : s.fetcher.At (drawSteps s.ppu.lineDot) (drawPops s.ppu.lineDot))
    (hpushed : s.fetcher.pushedX < 160) : s.PpuOk :=
  ⟨by omega, by omega, (State.modeOk_iff_of_draw hmode).mpr ⟨hly, hlo, hhi⟩,
    .of_at hsprites hpicked hmode hat hpushed⟩

theorem State.PpuOk.of_hblank (hmode : s.ppu.mode = .hblank) (hly : s.ppu.ly.toNat < 144) (hlo : 296 ≤ s.ppu.lineDot)
    (hhi : s.ppu.lineDot < 456) (hfifo : s.fetcher.fifo = []) : s.PpuOk :=
  ⟨hhi, by omega, (State.modeOk_iff_of_hblank hmode).mpr ⟨hly, hlo⟩, .of_idle hsprites hpicked (by simp [hmode]) hfifo⟩

theorem State.PpuOk.of_vblank (hmode : s.ppu.mode = .vblank) (hlo : 144 ≤ s.ppu.ly.toNat) (hhi : s.ppu.ly.toNat < 154)
    (hdot : s.ppu.lineDot < 456) (hfifo : s.fetcher.fifo = []) : s.PpuOk :=
  ⟨hdot, hhi, (State.modeOk_iff_of_vblank hmode).mpr hlo, .of_idle hsprites hpicked (by simp [hmode]) hfifo⟩

end

/-! ### Each mode's dot keeps it -/

section

variable {s : State} (h : s.PpuOk)

include h

theorem State.PpuOk.oamScanDot (hmode : s.ppu.mode = .oamScan) : s.oamScanDot.PpuOk := by
  obtain ⟨hly, hdot⟩ := (State.modeOk_iff_of_oamScan hmode).mp h.mode
  by_cases h79 : s.ppu.lineDot = 79
  · rw [State.oamScanDot_last h79, h79]
    have hat : Fetcher.cleared.At (drawSteps 80) (drawPops 80) := Fetcher.at_cleared
    exact .of_draw (sortByX_selected_length_le s) (Nat.zero_le 3) rfl hly (Nat.le_refl 80) (Nat.le_add_right 80 224)
      hat (Nat.zero_lt_succ 159)
  · have hdot' : s.ppu.lineDot + 1 < 80 := by omega
    rw [State.oamScanDot_within h79]
    exact .of_oamScan h.fetch.sprites h.fetch.picked hmode hly hdot' (h.fetch.idle (by simp [hmode]))

theorem State.PpuOk.drawDot (hmode : s.ppu.mode = .draw) : s.drawDot.PpuOk := by
  obtain ⟨hly, hlo, hhi⟩ := (State.modeOk_iff_of_draw hmode).mp h.mode
  obtain ⟨hat, hle, h304, h295⟩ := State.drawn_spec h.mode h.fetch hmode
  have hpicked := State.drawn_picked h.fetch.picked
  obtain ⟨f, fb, used, hdrawn⟩ := s.drawn_sameButPixels
  by_cases hend : 160 ≤ s.drawn.fetcher.pushedX
  · have hdot := h295 (Nat.le_antisymm hle hend)
    have hdot' : s.ppu.lineDot + 1 < 456 := by omega
    rw [State.drawDot_of_end hend, hdrawn]
    rw [hdrawn] at hpicked
    exact .of_hblank h.fetch.sprites hpicked rfl hly (Nat.succ_le_succ hdot) hdot' rfl
  · have hdot : s.ppu.lineDot ≠ 304 := fun h => hend (h304 h).ge
    have hdot' : s.ppu.lineDot + 1 ≤ 304 := by omega
    rw [State.drawDot_of_ongoing (Nat.lt_of_not_le hend)]
    rw [hdrawn] at hat hpicked hend ⊢
    exact .of_draw h.fetch.sprites hpicked hmode hly (Nat.le_succ_of_le hlo) hdot' hat (Nat.lt_of_not_le hend)

theorem State.PpuOk.hblankDot (hmode : s.ppu.mode = .hblank) : s.hblankDot.PpuOk := by
  obtain ⟨hly, hdot⟩ := (State.modeOk_iff_of_hblank hmode).mp h.mode
  have hfifo := h.fetch.idle (by simp [hmode])
  by_cases hlast : s.ppu.lineDot = 455
  · have hsucc := byte_add_one_toNat hly (by decide)
    rw [State.hblankDot_last hlast hly]
    by_cases hvb : s.ppu.ly.toNat = 143
    · have hlo : 144 ≤ (s.ppu.ly + 1).toNat := by omega
      have hhi : (s.ppu.ly + 1).toNat < 154 := by omega
      exact .of_vblank h.fetch.sprites h.fetch.picked (if_pos hvb) hlo hhi (Nat.zero_lt_succ 455) hfifo
    · have hhi : (s.ppu.ly + 1).toNat < 144 := by omega
      exact .of_oamScan h.fetch.sprites h.fetch.picked (if_neg hvb) hhi (Nat.zero_lt_succ 79) hfifo
  · have hlt : s.ppu.lineDot < 455 := by
      have := h.dot
      omega
    rw [State.hblankDot_within hlt]
    exact .of_hblank h.fetch.sprites h.fetch.picked hmode hly (Nat.le_succ_of_le hdot) (Nat.succ_lt_succ hlt) hfifo

theorem State.PpuOk.vblankDot (hmode : s.ppu.mode = .vblank) : s.vblankDot.PpuOk := by
  have hly := (State.modeOk_iff_of_vblank hmode).mp h.mode
  have hfifo := h.fetch.idle (by simp [hmode])
  have hline := h.line
  by_cases hlast : s.ppu.lineDot = 455
  · by_cases h153 : s.ppu.ly.toNat = 153
    · rw [State.vblankDot_frame_end hlast h153]
      exact .of_oamScan h.fetch.sprites h.fetch.picked rfl (Nat.zero_lt_succ 143) (Nat.zero_lt_succ 79) hfifo
    · have hlt : s.ppu.ly.toNat < 153 := by omega
      have hsucc := byte_add_one_toNat hlt (by decide)
      have hlo : 144 ≤ (s.ppu.ly + 1).toNat := by omega
      have hhi : (s.ppu.ly + 1).toNat < 154 := by omega
      rw [State.vblankDot_line_end hlast hlt]
      exact .of_vblank h.fetch.sprites h.fetch.picked hmode hlo hhi (Nat.zero_lt_succ 455) hfifo
  · have hlt : s.ppu.lineDot < 455 := by
      have := h.dot
      omega
    rw [State.vblankDot_within hlt]
    exact .of_vblank h.fetch.sprites h.fetch.picked hmode hly hline (Nat.succ_lt_succ hlt) hfifo

theorem State.PpuOk.ppuTick : s.ppuTick.PpuOk := by
  cases hmode : s.ppu.mode with
  | oamScan =>
    rw [State.ppuTick_of_oamScan hmode]
    exact h.oamScanDot hmode
  | draw =>
    rw [State.ppuTick_of_draw hmode]
    exact h.drawDot hmode
  | hblank =>
    rw [State.ppuTick_of_hblank hmode]
    exact h.hblankDot hmode
  | vblank =>
    rw [State.ppuTick_of_vblank hmode]
    exact h.vblankDot hmode

end

end Sys2Proof.Machine

end

section

namespace Sys2Proof.Machine

/-! ## Canonical storage under the ticks (rules R63, R482, R514, R554) -/

theorem State.pusherStep_framebuf_canonical {s : State} (h : s.framebuf.canonical = true) :
    s.pusherStep.framebuf.canonical = true := by
  obtain ⟨-, heq⟩ | ⟨px, _, -, -, ⟨-, heq⟩ | ⟨-, heq⟩⟩ := s.pusherStep_cases <;> rw [heq]
  · exact h
  · exact h
  · dsimp only
    split
    next hin =>
      refine FrameBuf.canonical_insert _ _ px ?_ h
      unfold pixelNumber
      omega
    · exact h

theorem State.drawDot_framebuf (s : State) : s.drawDot.framebuf = s.drawn.framebuf := by
  by_cases hend : 160 ≤ s.drawn.fetcher.pushedX
  · rw [State.drawDot_of_end hend]
  · rw [State.drawDot_of_ongoing (Nat.lt_of_not_le hend)]

section

variable {s : State} (h : s.PpuOk)

include h

/-- Only a Draw dot writes the frame buffer. -/
theorem State.PpuOk.ppuTick_framebuf (hmode : s.ppu.mode ≠ .draw) : s.ppuTick.framebuf = s.framebuf := by
  have hdot := h.dot
  have hline := h.line
  cases hm : s.ppu.mode with
  | oamScan =>
    rw [State.ppuTick_of_oamScan hm]
    by_cases h79 : s.ppu.lineDot = 79
    · rw [State.oamScanDot_last h79]
    · rw [State.oamScanDot_within h79]
  | draw => exact absurd hm hmode
  | hblank =>
    obtain ⟨hly, -⟩ := (State.modeOk_iff_of_hblank hm).mp h.mode
    rw [State.ppuTick_of_hblank hm]
    by_cases hlast : s.ppu.lineDot = 455
    · rw [State.hblankDot_last hlast hly]
    · rw [State.hblankDot_within (by omega)]
  | vblank =>
    rw [State.ppuTick_of_vblank hm]
    by_cases hlast : s.ppu.lineDot = 455
    · by_cases h153 : s.ppu.ly.toNat = 153
      · rw [State.vblankDot_frame_end hlast h153]
      · rw [State.vblankDot_line_end hlast (by omega)]
    · rw [State.vblankDot_within (by omega)]

theorem State.PpuOk.ppuTick_frames : s.ppuTick.frames = s.frames ∨ s.ppuTick.frames = s.frames ++ [s.framebuf] := by
  have hdot := h.dot
  have hline := h.line
  by_cases hlast : s.ppu.lineDot = 455
  · by_cases h153 : s.ppu.ly.toNat = 153
    · obtain ⟨-, hframes, -⟩ := State.ppuTick_frame_end h.mode hlast h153
      exact .inr hframes
    · obtain ⟨-, hframes, -⟩ := State.ppuTick_line_end h.mode hlast (by omega)
      exact .inl hframes
  · obtain ⟨-, hframes, -⟩ := State.ppuTick_within_line (s := s) (by omega)
    exact .inl hframes

theorem State.StoreOk.ppuTick (hstore : s.StoreOk) : s.ppuTick.StoreOk := by
  obtain ⟨-, -, -, -, hmem, hcart, -⟩ := s.ppuTick_same
  refine ⟨by rw [hmem]; exact hstore.mem, by rw [hcart]; exact hstore.cart, ?framebuf, ?frames⟩
  case framebuf =>
    by_cases hmode : s.ppu.mode = .draw
    · rw [State.ppuTick_of_draw hmode, State.drawDot_framebuf]
      apply State.pusherStep_framebuf_canonical
      rw [State.drawFetched_framebuf]
      exact hstore.framebuf
    · rw [h.ppuTick_framebuf hmode]
      exact hstore.framebuf
  case frames =>
    intro fb hfb
    obtain hframes | hframes := h.ppuTick_frames <;> rw [hframes] at hfb
    · exact hstore.frames fb hfb
    · obtain hfb | hfb := List.mem_append.mp hfb
      · exact hstore.frames fb hfb
      · rw [List.mem_singleton.mp hfb]
        exact hstore.framebuf

end

/-! ## The DMA controller (rules R37 to R39, R481, R482) -/

section

variable {s : State}

theorem State.dmaOk_iff_of_idle (h : s.dma.state = .idle) : s.DmaOk ↔ s.dma.index ≤ 160 := by
  rw [State.DmaOk, h]

theorem State.dmaOk_iff_of_startDelay (h : s.dma.state = .startDelay) :
    s.DmaOk ↔ 1 ≤ s.dma.delay ∧ s.dma.delay ≤ 2 ∧ s.dma.index = 0 := by
  rw [State.DmaOk, h]

theorem State.dmaOk_iff_of_transfer (h : s.dma.state = .transfer) : s.DmaOk ↔ s.dma.index < 160 := by
  rw [State.DmaOk, h]

theorem State.DmaOk.of_dma_eq {t : State} (h : s.DmaOk) (hdma : t.dma = s.dma) : t.DmaOk := by
  unfold State.DmaOk
  rw [hdma]
  exact h

theorem State.DmaOk.dmaTick (h : s.DmaOk) : s.dmaTick.DmaOk := by
  cases hstate : s.dma.state with
  | idle =>
    rw [State.dmaTick_of_idle hstate]
    exact h
  | startDelay =>
    obtain ⟨hlo, hhi, hindex⟩ := (State.dmaOk_iff_of_startDelay hstate).mp h
    rw [State.dmaTick_of_startDelay hstate]
    by_cases hlast : s.dma.delay - 1 = 0
    · have hlt : s.dma.index < 160 := by omega
      exact (State.dmaOk_iff_of_transfer (if_pos hlast)).mpr hlt
    · have hbounds : 1 ≤ s.dma.delay - 1 ∧ s.dma.delay - 1 ≤ 2 ∧ s.dma.index = 0 := by omega
      exact (State.dmaOk_iff_of_startDelay (if_neg hlast)).mpr hbounds
  | transfer =>
    have hlt := (State.dmaOk_iff_of_transfer hstate).mp h
    rw [State.dmaTick_of_transfer hstate]
    by_cases hlast : s.dma.index + 1 = 160
    · exact (State.dmaOk_iff_of_idle (if_pos hlast)).mpr hlast.le
    · have hlt' : s.dma.index + 1 < 160 := by omega
      exact (State.dmaOk_iff_of_transfer (if_neg hlast)).mpr hlt'

theorem State.StoreOk.dmaTick (hstore : s.StoreOk) (h : s.DmaOk) : s.dmaTick.StoreOk := by
  cases hstate : s.dma.state with
  | idle =>
    rw [State.dmaTick_of_idle hstate]
    exact hstore
  | startDelay =>
    rw [State.dmaTick_of_startDelay hstate]
    exact ⟨hstore.mem, hstore.cart, hstore.framebuf, hstore.frames⟩
  | transfer =>
    have hlt := (State.dmaOk_iff_of_transfer hstate).mp h
    have haddr : isMemAddr (0xFE00 + s.dma.index) = true := by
      simp only [isMemAddr, Bool.or_eq_true, Bool.and_eq_true, decide_eq_true_eq]
      omega
    rw [State.dmaTick_of_transfer hstate]
    exact ⟨Memory.canonical_insert _ _ _ haddr hstore.mem, hstore.cart, hstore.framebuf, hstore.frames⟩

/-- Only the trigger touches the controller. -/
theorem State.ioWrite_dma (s : State) (a : Word) (v : Byte) : (s.ioWrite a v).dma = s.dma ∨
    (s.ioWrite a v).dma = { state := .startDelay, delay := 2, index := 0, page := v } := by
  unfold State.ioWrite
  split
  case h_13 => exact .inr rfl
  all_goals exact .inl rfl

theorem State.DmaOk.busWrite (h : s.DmaOk) (a : Word) (v : Byte) : (s.busWrite a v).DmaOk := by
  by_cases hio : region a = .io
  · rw [s.busWrite_io v hio]
    obtain hdma | hdma := s.ioWrite_dma a v
    · exact h.of_dma_eq hdma
    · unfold State.DmaOk
      rw [hdma]
      exact ⟨Nat.le_succ 1, Nat.le_refl 2, rfl⟩
  · obtain ⟨-, hdma, -⟩ := s.busWrite_devices a v hio
    exact h.of_dma_eq hdma

end

/-! ## What a timer tick and the cycle counter do not reach (rules R402 and R461) -/

theorem State.timerTick_eq (s : State) :
    s.timerTick = { s with timer := s.timerTick.timer, irq := s.timerTick.irq } :=
  (congrArg (fun t : State => { t with timer := s.timerTick.timer, irq := s.timerTick.irq }) s.timerTick_frame :)

theorem State.dotNumber_timerTick (s : State) : s.timerTick.dotNumber = s.dotNumber := by
  rw [State.timerTick_eq]
  rfl

theorem State.PpuOk.counted {s : State} (h : s.PpuOk) (n : Nat) : { s with cycles := n }.timerTick.PpuOk := by
  rw [State.timerTick_eq]
  exact ⟨h.dot, h.line, h.mode, ⟨h.fetch.sprites, h.fetch.picked, h.fetch.idle, h.fetch.phase, h.fetch.fetchX,
    h.fetch.fifoX, h.fetch.lineX, h.fetch.fifo, h.fetch.pushed⟩⟩

theorem State.StoreOk.counted {s : State} (h : s.StoreOk) (n : Nat) : { s with cycles := n }.timerTick.StoreOk := by
  rw [State.timerTick_eq]
  exact ⟨h.mem, h.cart, h.framebuf, h.frames⟩

theorem State.tCycle_dma (s : State) : s.tCycle.dma = s.dma := by
  obtain ⟨-, -, -, hdma, -⟩ := { s with cycles := s.cycles + 1 }.timerTick.ppuTick_same
  exact hdma.trans (congrArg State.dma { s with cycles := s.cycles + 1 }.timerTick_frame :)

/-- The cycle counter and the PPU's position go on together. -/
theorem State.PpuOk.dotNumber_tCycle {s : State} (h : s.PpuOk) : s.tCycle.dotNumber = s.dotNumber + 1 :=
  (h.counted _).dotNumber_ppuTick.trans (congrArg (· + 1) (State.dotNumber_timerTick _))

theorem State.dmaTick_eq (s : State) :
    s.dmaTick = { s with dma := s.dmaTick.dma, mem := s.dmaTick.mem, extReads := s.dmaTick.extReads } :=
  (congrArg (fun t : State => { t with dma := s.dmaTick.dma, mem := s.dmaTick.mem, extReads := s.dmaTick.extReads })
    s.dmaTick_frame :)

/-! ## The invariant without the cost -/

/-- What every state keeps inside a step too. -/
structure State.Kept (s : State) : Prop where
  store : s.StoreOk
  clock : s.ClockOk
  mode : s.ModeOk
  fetch : s.FetchOk
  dma : s.DmaOk

theorem State.Inv.kept {s : State} (h : s.Inv) : s.Kept := ⟨h.store, h.clock, h.mode, h.fetch, h.dma⟩

theorem State.Kept.inv {s : State} (h : s.Kept) (hcost : s.mcycles = 0) : s.Inv :=
  ⟨h.store, h.clock, h.mode, h.fetch, h.dma, hcost⟩

namespace State.Kept

variable {s t : State}

theorem ppuOk (h : s.Kept) : s.PpuOk := ⟨h.clock.dot, h.clock.line, h.mode, h.fetch⟩

/-- No part of it reads the CPU, IF and IE, the timer, the cost or the fields of the environment. -/
theorem update (h : s.Kept) (c : Cpu) (q : Irq) (tm : Timer) (m r n : Nat) (e : List ExtRequest) :
    State.Kept { s with
      cpu := c, irq := q, timer := tm, mcycles := m, extReads := r, extTurns := n, extRequests := e } where
  store := ⟨h.store.mem, h.store.cart, h.store.framebuf, h.store.frames⟩
  clock := ⟨h.clock.dot, h.clock.line, h.clock.position⟩
  mode := h.mode
  fetch := ⟨h.fetch.sprites, h.fetch.picked, h.fetch.idle, h.fetch.phase, h.fetch.fetchX, h.fetch.fifoX, h.fetch.lineX,
    h.fetch.fifo, h.fetch.pushed⟩
  dma := h.dma

theorem of_sameVideo (h : s.Kept) (hv : s.SameVideo t) (hstore : t.StoreOk) (hdma : t.DmaOk) : t.Kept where
  store := hstore
  clock :=
    { dot := by rw [hv.lineDot]; exact h.clock.dot
      line := by rw [hv.ly]; exact h.clock.line
      position := by rw [hv.cycles, hv.frames, hv.ly, hv.lineDot]; exact h.clock.position }
  mode := by
    unfold State.ModeOk
    rw [hv.mode, hv.ly, hv.lineDot]
    exact h.mode
  fetch :=
    { sprites := by rw [hv.lineSprites]; exact h.fetch.sprites
      picked := by rw [hv.fetcher]; exact h.fetch.picked
      idle := by rw [hv.mode, hv.fetcher]; exact h.fetch.idle
      phase := by rw [hv.mode, hv.fetcher, hv.lineDot]; exact h.fetch.phase
      fetchX := by rw [hv.mode, hv.fetcher, hv.lineDot]; exact h.fetch.fetchX
      fifoX := by rw [hv.mode, hv.fetcher, hv.lineDot]; exact h.fetch.fifoX
      lineX := by rw [hv.mode, hv.fetcher, hv.lineDot]; exact h.fetch.lineX
      fifo := by rw [hv.mode, hv.fetcher]; exact h.fetch.fifo
      pushed := by rw [hv.mode, hv.fetcher]; exact h.fetch.pushed }
  dma := hdma

/-! ### Instructions keep it -/

theorem stable : InstrStable State.Kept where
  cpu s c m r h := h.update c s.irq s.timer m r s.extTurns s.extRequests
  write s a v h := h.of_sameVideo ((State.SameVideo.refl s).busWrite a v) (h.store.busWrite a v) (h.dma.busWrite a v)

theorem extTurn (h : s.Kept) : s.extTurn.Kept := h.update ..

theorem executed (h : s.Kept) : s.executed.Kept := by
  rw [State.executed]
  refine stable.shapeRun ?_ _
  rw [State.fetchInstr_eq]
  exact h.update ..

theorem takeInterrupt (h : s.Kept) (i : Nat) : (s.takeInterrupt i).Kept :=
  (stable.push16 h s.cpu.pc).update ..

/-! ### Time keeps it -/

theorem tCycle (h : s.Kept) : s.tCycle.Kept where
  store := (h.store.counted _).ppuTick (h.ppuOk.counted _)
  clock :=
    { dot := (h.ppuOk.counted _).ppuTick.dot
      line := (h.ppuOk.counted _).ppuTick.line
      position :=
        calc s.tCycle.cycles
          _ = s.cycles + 1 := s.tCycle_cycles
          _ = s.dotNumber + 1 := congrArg (· + 1) h.clock.position
          _ = s.tCycle.dotNumber := h.ppuOk.dotNumber_tCycle.symm }
  mode := (h.ppuOk.counted _).ppuTick.mode
  fetch := (h.ppuOk.counted _).ppuTick.fetch
  dma := h.dma.of_dma_eq s.tCycle_dma

theorem dmaTick (h : s.Kept) : s.dmaTick.Kept where
  store := h.store.dmaTick h.dma
  clock := by
    rw [State.dmaTick_eq]
    exact ⟨h.clock.dot, h.clock.line, h.clock.position⟩
  mode := by
    rw [State.dmaTick_eq]
    exact h.mode
  fetch := by
    rw [State.dmaTick_eq]
    exact ⟨h.fetch.sprites, h.fetch.picked, h.fetch.idle, h.fetch.phase, h.fetch.fetchX, h.fetch.fifoX, h.fetch.lineX,
      h.fetch.fifo, h.fetch.pushed⟩
  dma := h.dma.dmaTick

theorem mCycle (h : s.Kept) : s.mCycle.Kept := h.tCycle.tCycle.tCycle.tCycle.dmaTick

theorem advance (h : s.Kept) (m : Nat) : (State.advance m s).Kept := by
  induction m generalizing s with
  | zero => exact h
  | succ m ih => exact ih h.mCycle

theorem dispatchCheck (h : s.Kept) : s.dispatchCheck.Kept := by
  cases hlow : s.irq.lowestSource with
  | none =>
    rw [State.dispatchCheck_of_none hlow]
    exact h
  | some i =>
    rw [State.dispatchCheck_of_lowest hlow]
    exact (h.takeInterrupt i).advance 5

theorem finishStep (h : s.Kept) : s.finishStep.Kept := by
  have hime : s.imeTurn.Kept := by
    unfold State.imeTurn
    split
    · exact h.dispatchCheck.update ..
    · exact h
  unfold State.finishStep State.latchTurn
  split
  · exact hime.update ..
  · exact hime

theorem haltedStep (h : s.Kept) : s.haltedStep.Kept := by
  rw [State.haltedStep, State.wake_eq]
  exact (h.advance 1).update ..

theorem afterInstr (h : s.Kept) : s.afterInstr.Kept := by
  by_cases hf : s.cpu.fatal = none
  · have hzero : State.Kept { s with mcycles := 0 } := h.update ..
    rw [State.afterInstr_of_not_fatal hf]
    exact (hzero.advance s.mcycles).finishStep
  · rw [State.afterInstr_of_fatal hf]
    exact h

end State.Kept

/-! ## The cost is spent (log entry 14) -/

@[simp] theorem State.timerTick_mcycles (s : State) : s.timerTick.mcycles = s.mcycles :=
  (congrArg State.mcycles s.timerTick_frame :)

@[simp] theorem State.dmaTick_mcycles (s : State) : s.dmaTick.mcycles = s.mcycles :=
  (congrArg State.mcycles s.dmaTick_frame :)

@[simp] theorem State.ppuTick_mcycles (s : State) : s.ppuTick.mcycles = s.mcycles := by
  obtain ⟨-, -, -, -, -, -, -, -, h, -⟩ := s.ppuTick_same
  exact h

@[simp] theorem State.mCycle_mcycles (s : State) : s.mCycle.mcycles = s.mcycles := by
  simp [State.mCycle, State.tCycles, State.tCycle]

@[simp] theorem State.advance_mcycles (m : Nat) (s : State) : (State.advance m s).mcycles = s.mcycles := by
  induction m generalizing s with
  | zero => rfl
  | succ m ih => exact (ih s.mCycle).trans s.mCycle_mcycles

theorem State.finishStep_mcycles (s : State) : s.finishStep.mcycles = s.mcycles := by
  have hdispatch : s.dispatchCheck.mcycles = s.mcycles := by
    cases hlow : s.irq.lowestSource with
    | none => rw [State.dispatchCheck_of_none hlow]
    | some i => rw [State.dispatchCheck_of_lowest hlow, State.advance_mcycles, State.takeInterrupt_mcycles]
  have hlatch (t : State) : t.latchTurn.mcycles = t.mcycles := by
    unfold State.latchTurn
    split <;> rfl
  rw [State.finishStep, hlatch, State.imeTurn]
  split
  · exact hdispatch
  · rfl

theorem State.haltedStep_mcycles (s : State) : s.haltedStep.mcycles = s.mcycles := by
  rw [State.haltedStep, State.wake_eq, State.advance_mcycles]

theorem State.executed_afterInstr_mcycles {s : State} (hf : s.cpu.fatal = none) (hcost : s.mcycles = 0) :
    s.executed.afterInstr.mcycles = 0 := by
  by_cases hfatal : s.executed.cpu.fatal = none
  · rw [State.afterInstr_of_not_fatal hfatal, State.finishStep_mcycles, State.advance_mcycles]
  · rw [State.afterInstr_of_fatal hfatal, ← hcost]
    refine (shapeRun_mcycles_of_fatal _ _ ?_ hfatal).trans ?_ <;> rw [State.fetchInstr_eq]
    exact hf

/-- Settles O29: each part of a step keeps `Kept`, and the step spends its cost. -/
theorem stepKeepsInv : Obligations.StepKeepsInv := by
  intro s t h hstep
  have he := h.kept.extTurn
  cases hf : s.cpu.fatal with
  | some r =>
    rw [step_of_fatal hf] at hstep
    cases hstep
  | none =>
    cases hh : s.cpu.halted with
    | true =>
      rw [step_of_halted hf hh] at hstep
      cases hstep
      refine he.haltedStep.finishStep.inv ?_
      rw [State.finishStep_mcycles, State.haltedStep_mcycles]
      exact h.cost
    | false =>
      rw [step_of_running hf hh] at hstep
      cases hstep
      exact he.executed.afterInstr.inv (State.executed_afterInstr_mcycles hf h.cost)

end Sys2Proof.Machine

end

section

namespace Sys2Proof.Machine

/-! ## Reset (rules R600 and R601) -/

/-- Settles O28: reset stands at dot 0 of line 0, with nothing stored. -/
theorem resetKept : Obligations.ResetKept where
  store := ⟨rfl, rfl, rfl, fun _ h => nomatch h⟩
  clock := ⟨by decide, by decide, rfl⟩
  mode := (State.modeOk_iff_of_oamScan rfl).mpr (by decide)
  fetch := .of_idle (by decide) (by decide) (by decide) rfl
  dma := (State.dmaOk_iff_of_idle rfl).mpr (by decide)
  cost := rfl

/-- Settles O30: two fields of the reset state. -/
theorem resetPcSp : Obligations.ResetPcSp := ⟨rfl, rfl⟩

/-- Settles O31: the fields of the reset state, the I/O registers through the bus. -/
theorem resetRegisters : Obligations.ResetRegisters := by
  unfold Obligations.ResetRegisters
  and_intros <;> rfl

end Sys2Proof.Machine

end
